-- ==== Sys2Proof/Word.lean ====
section
/-! DEFINITION. The word types of the HTG13J0, under the spec's own widths (spec/00_scope.md R6, R9). -/

namespace Sys2Proof

/-- A 4-bit data word: ACC, a working register, one data-memory cell, a port (R6). -/
abbrev Nibble := BitVec 4

/-- A byte of program memory (R6). -/
abbrev Byte := BitVec 8

/-- A 12-bit program address, the width of PC and of STK.pc (R6, R25). -/
abbrev ProgAddr := BitVec 12

/-- An 8-bit data-memory address (R6, R65). -/
abbrev DataAddr := BitVec 8

end Sys2Proof
end

