-- ==== Sys2Proof/Config.lean ====
section
/-! DEFINITION. What one chip fixes: the mask options and open parameters (spec/00_scope.md R7, R8), as plain data that
State carries and no step changes; and the FREE VALUES, constants without a body, for what the spec leaves without a
value (spec/93_implementation_defined.md). Nothing in Lean can evaluate a free value or prove which value it has. -/

namespace Sys2Proof.Config

/-- IMM8_ORDER, open (30_encoding.md R96; 92_eei_decisions.md D2): which byte of `MOV R1R0,XXH` and `MOV R3R2,XXH`
carries the high nibble. Log entry 6. -/
inductive Imm8Order where
  | firstHigh  -- XXH = B1[3:0]:B2[3:0]
  | firstLow   -- XXH = B2[3:0]:B1[3:0]
deriving DecidableEq, Repr

/-- INT_PRIORITY, open (60_exceptions.md R237; D11): which of two pending interrupts is taken first. Log entry 7. -/
inductive IntPriority where
  | timerFirst
  | externalFirst
deriving DecidableEq, Repr

/-- PA_TYPE[i]: the output stage of pad PAi (R7). -/
inductive PadType where
  | cmos
  | nmosOpenDrain
deriving DecidableEq, Repr

/-- TIMER_DIV: the thirteen selectable divider stages; stage 6 is reserved (R7, 93_implementation_defined.md U22),
so it has no constructor. -/
inductive TimerDiv where
  | n0 | n1 | n2 | n3 | n4 | n5 | n7 | n8 | n9 | n10 | n11 | n12 | n13
deriving DecidableEq, Repr

/-- n of the timer clock fSYS/2^n (R7). -/
def TimerDiv.exponent : TimerDiv → Nat
  | .n0 => 0
  | .n1 => 1
  | .n2 => 2
  | .n3 => 3
  | .n4 => 4
  | .n5 => 5
  | .n7 => 7
  | .n8 => 8
  | .n9 => 9
  | .n10 => 10
  | .n11 => 11
  | .n12 => 12
  | .n13 => 13

/-- SOUND_DIV: the six selectable sound clocks fSYS/2^m (R7). -/
inductive SoundDiv where
  | m0 | m1 | m2 | m3 | m4 | m5
deriving DecidableEq, Repr

/-- m of the sound clock fSYS/2^m (R7). -/
def SoundDiv.exponent : SoundDiv → Nat
  | .m0 => 0
  | .m1 => 1
  | .m2 => 2
  | .m3 => 3
  | .m4 => 4
  | .m5 => 5

/-- One bit for each of the eight input pins: bit i of `ps` is pin PSi, bit i of `pp` is pin PPi (R7, R172). -/
structure PinMask where
  ps : Nibble
  pp : Nibble
deriving DecidableEq, Repr

/-- The constants of one chip: mask options (R7), system clock and open parameters (R8). -/
structure Chip where
  /-- PULLHIGH[p]. -/
  pullHigh : PinMask
  /-- WAKE[p]. -/
  wake : PinMask
  /-- PA_TYPE[0], the stage of pad PA0. -/
  paType0 : PadType
  /-- PA_TYPE[1], the stage of pad PA1. -/
  paType1 : PadType
  /-- PA_TYPE[2], the stage of pad PA2. -/
  paType2 : PadType
  timerDiv : TimerDiv
  soundDiv : SoundDiv
  /-- FSYS, in hertz. -/
  fsysHz : Nat
  imm8Order : Imm8Order
  intPriority : IntPriority
deriving DecidableEq, Repr

/-! ## Free values

Each is drawn by an index: the number of the reset (`era`) or of the draw (`draws`) that State counts. -/

/-- The mask ROM's byte at a 13-bit physical address that State's `rom` does not list: the program is a parameter of
the model (R8, R39). Log entry 2. -/
opaque maskRom : Nat → Byte

/-- The contents of RAM cell `a` after reset number `era`, until something writes it (R38, R44; U1). Log entry 1. -/
opaque ramAtReset : (era a : Nat) → Nibble

/-- ACC after a reset pulse (R44; U1, U18). Log entry 4. -/
opaque accAtReset : (era : Nat) → Nibble

/-- Working register number `n` after a reset pulse (R44; U1, U18). Log entry 4. -/
opaque regAtReset : (era n : Nat) → Nibble

/-- C after a reset pulse (R44; U1, U18). Log entry 4. -/
opaque carryAtReset : (era : Nat) → Bool

/-- STK.pc after a reset pulse (R44; U1). Log entry 4. -/
opaque stkPcAtReset : (era : Nat) → ProgAddr

/-- STK.c after a reset, until an interrupt entry writes it (R192; U7). Log entry 11. -/
opaque stkCAtReset : (era : Nat) → Bool

/-- TMR after a reset pulse (R44; U1). Log entry 4. -/
opaque tmrAtReset : (era : Nat) → Byte

/-- SND.ch after a reset pulse (R44; U1). Log entry 4. -/
opaque sndChAtReset : (era : Nat) → Nibble

/-- The timer divider's phase after a reset pulse, to be reduced modulo 2^TIMER_DIV (R42, R251; U11). Log entry 4. -/
opaque phaseAtReset : (era : Nat) → Nat

/-- The levels of port PS's pins that nothing drives and nothing pulls, drawn anew at every look (R40; U9). Log
entry 10. -/
opaque floatingPs : (draw : Nat) → Nibble

/-- The same for port PP (R40; U9). Log entry 10. -/
opaque floatingPp : (draw : Nat) → Nibble

/-- Whether a sound that was playing at HALT still plays after the wake-up (R227; U13). Log entry 16. -/
opaque soundAfterWake : (draw : Nat) → Bool

end Sys2Proof.Config
end

