-- ==== Sys2Proof/Syntax.lean ====
section
/-! DEFINITION. The instructions, one constructor for each of the 95 rows of spec/opcode_table.json, in the table's order
(30_encoding.md R99, R100). Operands are bit vectors of exactly the width of their field (R91-R98). The two nibbles of
`MOV R1R0,XXH` and `MOV R3R2,XXH` are kept as the bytes carry them, because which of them is the high one is the open
parameter IMM8_ORDER (R96). -/

namespace Sys2Proof

inductive Instr where
  /-- `RR A`, `00000000` (R167). -/
  | rrA
  /-- `RL A`, `00000001` (R165). -/
  | rlA
  /-- `RRC A`, `00000010` (R168). -/
  | rrcA
  /-- `RLC A`, `00000011` (R166). -/
  | rlcA
  /-- `MOV A,[R1R0]`, `00000100` (R153). -/
  | movAM10
  /-- `MOV [R1R0],A`, `00000101` (R155). -/
  | movM10A
  /-- `MOV A,[R3R2]`, `00000110` (R154). -/
  | movAM32
  /-- `MOV [R3R2],A`, `00000111` (R156). -/
  | movM32A
  /-- `ADC A,[R1R0]`, `00001000` (R122). -/
  | adcAM10
  /-- `ADD A,[R1R0]`, `00001001` (R121). -/
  | addAM10
  /-- `SBC A,[R1R0]`, `00001010` (R124). -/
  | sbcAM10
  /-- `SUB A,[R1R0]`, `00001011` (R123). -/
  | subAM10
  /-- `INC [R1R0]`, `00001100` (R143). -/
  | incM10
  /-- `DEC [R1R0]`, `00001101` (R147). -/
  | decM10
  /-- `INC [R3R2]`, `00001110` (R144). -/
  | incM32
  /-- `DEC [R3R2]`, `00001111` (R148). -/
  | decM32
  /-- `INC R0`, `00010000` (R142). -/
  | incR0
  /-- `DEC R0`, `00010001` (R146). -/
  | decR0
  /-- `INC R1`, `00010010` (R142). -/
  | incR1
  /-- `DEC R1`, `00010011` (R146). -/
  | decR1
  /-- `INC R2`, `00010100` (R142). -/
  | incR2
  /-- `DEC R2`, `00010101` (R146). -/
  | decR2
  /-- `INC R3`, `00010110` (R142). -/
  | incR3
  /-- `DEC R3`, `00010111` (R146). -/
  | decR3
  /-- `INC R4`, `00011000` (R142). -/
  | incR4
  /-- `DEC R4`, `00011001` (R146). -/
  | decR4
  /-- `AND A,[R1R0]`, `00011010` (R131). -/
  | andAM10
  /-- `XOR A,[R1R0]`, `00011011` (R133). -/
  | xorAM10
  /-- `OR A,[R1R0]`, `00011100` (R132). -/
  | orAM10
  /-- `AND [R1R0],A`, `00011101` (R134). -/
  | andM10A
  /-- `XOR [R1R0],A`, `00011110` (R136). -/
  | xorM10A
  /-- `OR [R1R0],A`, `00011111` (R135). -/
  | orM10A
  /-- `MOV R0,A`, `00100000` (R152). -/
  | movR0A
  /-- `MOV A,R0`, `00100001` (R151). -/
  | movAR0
  /-- `MOV R1,A`, `00100010` (R152). -/
  | movR1A
  /-- `MOV A,R1`, `00100011` (R151). -/
  | movAR1
  /-- `MOV R2,A`, `00100100` (R152). -/
  | movR2A
  /-- `MOV A,R2`, `00100101` (R151). -/
  | movAR2
  /-- `MOV R3,A`, `00100110` (R152). -/
  | movR3A
  /-- `MOV A,R3`, `00100111` (R151). -/
  | movAR3
  /-- `MOV R4,A`, `00101000` (R152). -/
  | movR4A
  /-- `MOV A,R4`, `00101001` (R151). -/
  | movAR4
  /-- `CLC`, `00101010` (R193). -/
  | clc
  /-- `STC`, `00101011` (R194). -/
  | stc
  /-- `EI`, `00101100` (R195). -/
  | ei
  /-- `DI`, `00101101` (R196). -/
  | di
  /-- `RET`, `00101110` (R191). -/
  | ret
  /-- `RETI`, `00101111` (R192). -/
  | reti
  /-- `OUT PA,A`, `00110000` (R171). -/
  | outPaA
  /-- `INC A`, `00110001` (R141). -/
  | incA
  /-- `IN A,PS`, `00110011` (R169). -/
  | inAPs
  /-- `IN A,PP`, `00110100` (R170). -/
  | inAPp
  /-- `DAA`, `00110110` (R127). -/
  | daa
  /-- `HALT`, `00110111 00111110` (R225). -/
  | halt
  /-- `TIMER ON`, `00111000` (R201). -/
  | timerOn
  /-- `TIMER OFF`, `00111001` (R202). -/
  | timerOff
  /-- `MOV A,TMRL`, `00111010` (R203). -/
  | movATmrl
  /-- `MOV A,TMRH`, `00111011` (R204). -/
  | movATmrh
  /-- `MOV TMRL,A`, `00111100` (R205). -/
  | movTmrlA
  /-- `MOV TMRH,A`, `00111101` (R206). -/
  | movTmrhA
  /-- `NOP`, `00111110` (R197). -/
  | nop
  /-- `DEC A`, `00111111` (R145). -/
  | decA
  /-- `ADD A,XH`, `01000000 0000dddd` (R125). -/
  | addAX (d : Nibble)
  /-- `SUB A,XH`, `01000001 0000dddd` (R126). -/
  | subAX (d : Nibble)
  /-- `AND A,XH`, `01000010 0000dddd` (R137). -/
  | andAX (d : Nibble)
  /-- `XOR A,XH`, `01000011 0000dddd` (R139). -/
  | xorAX (d : Nibble)
  /-- `OR A,XH`, `01000100 0000dddd` (R138). -/
  | orAX (d : Nibble)
  /-- `SOUND n`, `01000101 0000nnnn` (R220). -/
  | soundN (d : Nibble)
  /-- `MOV R4,XH`, `01000110 0000dddd` (R160). -/
  | movR4X (d : Nibble)
  /-- `TIMER XXH`, `01000111 dddddddd` (R200). -/
  | timerX (d : Byte)
  /-- `SOUND ONE`, `01001000` (R222). -/
  | soundOne
  /-- `SOUND LOOP`, `01001001` (R223). -/
  | soundLoop
  /-- `SOUND OFF`, `01001010` (R224). -/
  | soundOff
  /-- `SOUND A`, `01001011` (R221). -/
  | soundA
  /-- `READ R4A`, `01001100` (R211). -/
  | readR4a
  /-- `READF R4A`, `01001101` (R213). -/
  | readfR4a
  /-- `READ MR0A`, `01001110` (R212). -/
  | readMr0a
  /-- `READF MR0A`, `01001111` (R214). -/
  | readfMr0a
  /-- `MOV R1R0,XXH`, `0101eeee 0000ffff` (R158). -/
  | movR1R0X (e : Nibble) (f : Nibble)
  /-- `MOV R3R2,XXH`, `0110eeee 0000ffff` (R159). -/
  | movR3R2X (e : Nibble) (f : Nibble)
  /-- `MOV A,XH`, `0111dddd` (R157). -/
  | movAX (d : Nibble)
  /-- `JA0 address`, `10000aaa aaaaaaaa` (R180). -/
  | ja0 (addr : BitVec 11)
  /-- `JA1 address`, `10001aaa aaaaaaaa` (R180). -/
  | ja1 (addr : BitVec 11)
  /-- `JA2 address`, `10010aaa aaaaaaaa` (R180). -/
  | ja2 (addr : BitVec 11)
  /-- `JA3 address`, `10011aaa aaaaaaaa` (R180). -/
  | ja3 (addr : BitVec 11)
  /-- `JNZ R0,address`, `10100aaa aaaaaaaa` (R183). -/
  | jnzR0 (addr : BitVec 11)
  /-- `JNZ R1,address`, `10101aaa aaaaaaaa` (R183). -/
  | jnzR1 (addr : BitVec 11)
  /-- `JZ A,address`, `10110aaa aaaaaaaa` (R181). -/
  | jzA (addr : BitVec 11)
  /-- `JNZ A,address`, `10111aaa aaaaaaaa` (R182). -/
  | jnzA (addr : BitVec 11)
  /-- `JC address`, `11000aaa aaaaaaaa` (R177). -/
  | jc (addr : BitVec 11)
  /-- `JNC address`, `11001aaa aaaaaaaa` (R178). -/
  | jnc (addr : BitVec 11)
  /-- `JTMR address`, `11010aaa aaaaaaaa` (R179). -/
  | jtmr (addr : BitVec 11)
  /-- `JNZ R4,address`, `11011aaa aaaaaaaa` (R183). -/
  | jnzR4 (addr : BitVec 11)
  /-- `JMP address`, `1110aaaa aaaaaaaa` (R176). -/
  | jmp (addr : BitVec 12)
  /-- `CALL address`, `1111aaaa aaaaaaaa` (R190). -/
  | call (addr : BitVec 12)
deriving DecidableEq, Repr

end Sys2Proof
end

