-- ==== Sys2Proof/WellFormed.lean ====
section
/-! DEFINITION. Well-formedness. Every term of `Instr` is well formed: each operand is a bit vector of exactly its field's
width, so no check on an instruction is left to make. What can be ill formed is a pair of BYTES (an unassigned first byte,
printed-zero bits that are set, 37H without 3EH: 30_encoding.md R101-R103) and a CHIP (a system clock outside the range
of 00_scope.md R8). -/

namespace Sys2Proof

/-- R101: 32H and 35H are the only unassigned first bytes. -/
def firstByteAssigned (b1 : Byte) : Bool := b1 != 0x32#8 && b1 != 0x35#8

/-- The first bytes of formats F2I and F2P, whose second byte is printed `0000 dddd` (R91, R102). -/
def hasPrintedZeros (b1 : Byte) : Bool :=
  decide (0x40 ≤ b1.toNat ∧ b1.toNat ≤ 0x46) || decide (0x50 ≤ b1.toNat ∧ b1.toNat ≤ 0x6F)

/-- R102, R103: what the second byte of a 2-byte instruction may be. -/
def secondByteLegal (b1 b2 : Byte) : Bool :=
  if b1 = 0x37#8 then b2 == 0x3E#8
  else if hasPrintedZeros b1 then b2.extractLsb' 4 4 == 0#4
  else true

/-- The byte pair begins with an instruction the spec assigns (R101-R103). -/
def bytesWellFormed (b1 b2 : Byte) : Bool := firstByteAssigned b1 && secondByteLegal b1 b2

/-- R8: the system clock lies between 32 kHz and 1000 kHz (93_implementation_defined.md U23). -/
def Config.Chip.wellFormed (k : Config.Chip) : Bool := decide (32000 ≤ k.fsysHz ∧ k.fsysHz ≤ 1000000)

end Sys2Proof
end

