-- ==== Sys2Proof/Decode.lean ====
section
/-! DEFINITION. The decoder, total on any two bytes, written as the spec's map of the first byte (30_encoding.md R99):
one vector of sixteen cells, column by column, for each of the rows 0x-4x, and a field rule for each of the rows 5x-Fx.
After it the encoder, written from the encoding of each row of spec/opcode_table.json, and the lengths and cycles. -/

namespace Sys2Proof

/-- Why the decoder refuses two bytes; the machine turns each into the spec's named fault (60_exceptions.md R231). -/
inductive DecodeError where
  /-- First byte 32H or 35H (R101). -/
  | undefinedOpcode (b1 : Byte)
  /-- Printed-zero bits of the second byte are set, or 37H is not followed by 3EH (R102, R103). -/
  | reservedOperand (b1 b2 : Byte)
deriving DecidableEq, Repr

/-- The decoder's answer. -/
abbrev Decoded := Except DecodeError Instr

/-- A cell of the map that no instruction uses (R101). -/
def unassigned (b1 : Byte) : Decoded := .error (.undefinedOpcode b1)

/-- Format F2I: the immediate is B2[3:0], B2[7:4] must be 0000 (R94, R102). -/
def imm4 (mk : Nibble → Instr) (b1 b2 : Byte) : Decoded :=
  if b2.extractLsb' 4 4 = 0#4 then .ok (mk (b2.extractLsb' 0 4)) else .error (.reservedOperand b1 b2)

/-- Format F2P: the two nibbles B1[3:0] and B2[3:0], B2[7:4] must be 0000 (R96, R102). -/
def nibblePair (mk : Nibble → Nibble → Instr) (b1 b2 : Byte) : Decoded :=
  if b2.extractLsb' 4 4 = 0#4 then .ok (mk (b1.extractLsb' 0 4) (b2.extractLsb' 0 4))
  else .error (.reservedOperand b1 b2)

/-- Format F2H: HALT is 37H 3EH and nothing else (R103). -/
def haltOr (b1 b2 : Byte) : Decoded := if b2 = 0x3E#8 then .ok .halt else .error (.reservedOperand b1 b2)

/-- Format F2C: `addr11 = B1[2:0]:B2` (R98). -/
def addr11 (b1 b2 : Byte) : BitVec 11 := b1.extractLsb' 0 3 ++ b2

/-- Format F2J: `addr12 = B1[3:0]:B2` (R97). -/
def addr12 (b1 b2 : Byte) : BitVec 12 := b1.extractLsb' 0 4 ++ b2

/-- Two instructions of format F2C share a row of the map: bit 3 of B1 tells them apart (R98, R99). -/
def condPair (low high : BitVec 11 → Instr) (b1 b2 : Byte) : Decoded :=
  .ok (if b1.getLsbD 3 then high (addr11 b1 b2) else low (addr11 b1 b2))

/-- Row 0x of the map (R99). -/
def mapRow0 : Vector Decoded 16 :=
    #v[.ok .rrA, .ok .rlA, .ok .rrcA, .ok .rlcA, .ok .movAM10, .ok .movM10A, .ok .movAM32, .ok .movM32A,
       .ok .adcAM10, .ok .addAM10, .ok .sbcAM10, .ok .subAM10, .ok .incM10, .ok .decM10, .ok .incM32, .ok .decM32]

/-- Row 1x of the map (R99). -/
def mapRow1 : Vector Decoded 16 :=
    #v[.ok .incR0, .ok .decR0, .ok .incR1, .ok .decR1, .ok .incR2, .ok .decR2, .ok .incR3, .ok .decR3, .ok .incR4,
       .ok .decR4, .ok .andAM10, .ok .xorAM10, .ok .orAM10, .ok .andM10A, .ok .xorM10A, .ok .orM10A]

/-- Row 2x of the map (R99). -/
def mapRow2 : Vector Decoded 16 :=
    #v[.ok .movR0A, .ok .movAR0, .ok .movR1A, .ok .movAR1, .ok .movR2A, .ok .movAR2, .ok .movR3A, .ok .movAR3,
       .ok .movR4A, .ok .movAR4, .ok .clc, .ok .stc, .ok .ei, .ok .di, .ok .ret, .ok .reti]

/-- Row 3x of the map (R99). -/
def mapRow3 (b1 b2 : Byte) : Vector Decoded 16 :=
    #v[.ok .outPaA, .ok .incA, unassigned b1, .ok .inAPs, .ok .inAPp, unassigned b1, .ok .daa, haltOr b1 b2,
       .ok .timerOn, .ok .timerOff, .ok .movATmrl, .ok .movATmrh, .ok .movTmrlA, .ok .movTmrhA, .ok .nop, .ok .decA]

/-- Row 4x of the map (R99). -/
def mapRow4 (b1 b2 : Byte) : Vector Decoded 16 :=
    #v[imm4 .addAX b1 b2, imm4 .subAX b1 b2, imm4 .andAX b1 b2, imm4 .xorAX b1 b2, imm4 .orAX b1 b2,
       imm4 .soundN b1 b2, imm4 .movR4X b1 b2, .ok (.timerX b2), .ok .soundOne, .ok .soundLoop, .ok .soundOff,
       .ok .soundA, .ok .readR4a, .ok .readfR4a, .ok .readMr0a, .ok .readfMr0a]

/-- The cell of a row that the low nibble of B1 selects. -/
def mapCell (row : Vector Decoded 16) (col : Nibble) : Decoded := row[col.toNat]'col.isLt

/-- The instruction that begins with bytes `b1`, `b2` (R90, R99). The second byte is looked at only where the first
begins a 2-byte instruction. -/
def decode (b1 b2 : Byte) : Decoded :=
  let col := b1.extractLsb' 0 4
  match (b1.extractLsb' 4 4).toNat with
  | 0x0 => mapCell mapRow0 col
  | 0x1 => mapCell mapRow1 col
  | 0x2 => mapCell mapRow2 col
  | 0x3 => mapCell (mapRow3 b1 b2) col
  | 0x4 => mapCell (mapRow4 b1 b2) col
  | 0x5 => nibblePair .movR1R0X b1 b2
  | 0x6 => nibblePair .movR3R2X b1 b2
  | 0x7 => .ok (.movAX col)
  | 0x8 => condPair .ja0 .ja1 b1 b2
  | 0x9 => condPair .ja2 .ja3 b1 b2
  | 0xA => condPair .jnzR0 .jnzR1 b1 b2
  | 0xB => condPair .jzA .jnzA b1 b2
  | 0xC => condPair .jc .jnc b1 b2
  | 0xD => condPair .jtmr .jnzR4 b1 b2
  | 0xE => .ok (.jmp (addr12 b1 b2))
  | _ => .ok (.call (addr12 b1 b2))

/-- The instruction at the head of a list of bytes; a byte that is not there reads as 0. -/
def decodeBytes (l : List Byte) : Decoded := decode (l.getD 0 0#8) (l.getD 1 0#8)

/-- R90: the first byte alone decides the length; it begins a 2-byte instruction when it is 37H, 40H-47H, 50H-6FH or
80H-FFH. -/
def isTwoByte (b1 : Byte) : Bool :=
  let n := b1.toNat
  decide (n = 0x37 ∨ (0x40 ≤ n ∧ n ≤ 0x47) ∨ (0x50 ≤ n ∧ n ≤ 0x6F) ∨ 0x80 ≤ n)

/-! ## The encoder -/

/-- A 1-byte instruction without operand. -/
def enc1 (b1 : Byte) : List Byte := [b1]

/-- Format F2I: opcode byte, then `0000 dddd`. -/
def encImm4 (b1 : Byte) (d : Nibble) : List Byte := [b1, 0#4 ++ d]

/-- Format F2P: `oooo eeee`, then `0000 ffff`. -/
def encPair (op e f : Nibble) : List Byte := [op ++ e, 0#4 ++ f]

/-- Format F2C: `ooooo aaa`, then `aaaaaaaa`. -/
def encCond (op : BitVec 5) (a : BitVec 11) : List Byte := [op ++ a.extractLsb' 8 3, a.extractLsb' 0 8]

/-- Format F2J: `oooo aaaa`, then `aaaaaaaa`. -/
def encJump (op : Nibble) (a : BitVec 12) : List Byte := [op ++ a.extractLsb' 8 4, a.extractLsb' 0 8]

/-- The bytes of an instruction, the first at the lowest address (R69, R91). -/
def encode : Instr → List Byte
  | .rrA => enc1 0x00#8
  | .rlA => enc1 0x01#8
  | .rrcA => enc1 0x02#8
  | .rlcA => enc1 0x03#8
  | .movAM10 => enc1 0x04#8
  | .movM10A => enc1 0x05#8
  | .movAM32 => enc1 0x06#8
  | .movM32A => enc1 0x07#8
  | .adcAM10 => enc1 0x08#8
  | .addAM10 => enc1 0x09#8
  | .sbcAM10 => enc1 0x0A#8
  | .subAM10 => enc1 0x0B#8
  | .incM10 => enc1 0x0C#8
  | .decM10 => enc1 0x0D#8
  | .incM32 => enc1 0x0E#8
  | .decM32 => enc1 0x0F#8
  | .incR0 => enc1 0x10#8
  | .decR0 => enc1 0x11#8
  | .incR1 => enc1 0x12#8
  | .decR1 => enc1 0x13#8
  | .incR2 => enc1 0x14#8
  | .decR2 => enc1 0x15#8
  | .incR3 => enc1 0x16#8
  | .decR3 => enc1 0x17#8
  | .incR4 => enc1 0x18#8
  | .decR4 => enc1 0x19#8
  | .andAM10 => enc1 0x1A#8
  | .xorAM10 => enc1 0x1B#8
  | .orAM10 => enc1 0x1C#8
  | .andM10A => enc1 0x1D#8
  | .xorM10A => enc1 0x1E#8
  | .orM10A => enc1 0x1F#8
  | .movR0A => enc1 0x20#8
  | .movAR0 => enc1 0x21#8
  | .movR1A => enc1 0x22#8
  | .movAR1 => enc1 0x23#8
  | .movR2A => enc1 0x24#8
  | .movAR2 => enc1 0x25#8
  | .movR3A => enc1 0x26#8
  | .movAR3 => enc1 0x27#8
  | .movR4A => enc1 0x28#8
  | .movAR4 => enc1 0x29#8
  | .clc => enc1 0x2A#8
  | .stc => enc1 0x2B#8
  | .ei => enc1 0x2C#8
  | .di => enc1 0x2D#8
  | .ret => enc1 0x2E#8
  | .reti => enc1 0x2F#8
  | .outPaA => enc1 0x30#8
  | .incA => enc1 0x31#8
  | .inAPs => enc1 0x33#8
  | .inAPp => enc1 0x34#8
  | .daa => enc1 0x36#8
  | .halt => [0x37#8, 0x3E#8]
  | .timerOn => enc1 0x38#8
  | .timerOff => enc1 0x39#8
  | .movATmrl => enc1 0x3A#8
  | .movATmrh => enc1 0x3B#8
  | .movTmrlA => enc1 0x3C#8
  | .movTmrhA => enc1 0x3D#8
  | .nop => enc1 0x3E#8
  | .decA => enc1 0x3F#8
  | .addAX d => encImm4 0x40#8 d
  | .subAX d => encImm4 0x41#8 d
  | .andAX d => encImm4 0x42#8 d
  | .xorAX d => encImm4 0x43#8 d
  | .orAX d => encImm4 0x44#8 d
  | .soundN d => encImm4 0x45#8 d
  | .movR4X d => encImm4 0x46#8 d
  | .timerX d => [0x47#8, d]
  | .soundOne => enc1 0x48#8
  | .soundLoop => enc1 0x49#8
  | .soundOff => enc1 0x4A#8
  | .soundA => enc1 0x4B#8
  | .readR4a => enc1 0x4C#8
  | .readfR4a => enc1 0x4D#8
  | .readMr0a => enc1 0x4E#8
  | .readfMr0a => enc1 0x4F#8
  | .movR1R0X e f => encPair 0x5#4 e f
  | .movR3R2X e f => encPair 0x6#4 e f
  | .movAX d => [0x7#4 ++ d]
  | .ja0 a => encCond 0b10000#5 a
  | .ja1 a => encCond 0b10001#5 a
  | .ja2 a => encCond 0b10010#5 a
  | .ja3 a => encCond 0b10011#5 a
  | .jnzR0 a => encCond 0b10100#5 a
  | .jnzR1 a => encCond 0b10101#5 a
  | .jzA a => encCond 0b10110#5 a
  | .jnzA a => encCond 0b10111#5 a
  | .jc a => encCond 0b11000#5 a
  | .jnc a => encCond 0b11001#5 a
  | .jtmr a => encCond 0b11010#5 a
  | .jnzR4 a => encCond 0b11011#5 a
  | .jmp a => encJump 0xE#4 a
  | .call a => encJump 0xF#4 a

/-- The length in bytes (R90). -/
def Instr.length (i : Instr) : Nat := (encode i).length

/-- The four table reads, the only instructions whose cycles differ from their bytes (R286). -/
def Instr.isTableRead (i : Instr) : Bool :=
  i == .readR4a || i == .readfR4a || i == .readMr0a || i == .readfMr0a

/-- The machine cycles: one per byte, but two for the four 1-byte table reads (70_reset_and_hazards.md R286). -/
def Instr.cycles (i : Instr) : Nat := if i.isTableRead then 2 else i.length

/-! ## The words of spec/opcode_table.json -/

/-- The two bytes of a table word of `nbits` bits. The table numbers a 1-byte row's bits 7..0 and a 2-byte row's bits
with B1 in 15..8 and B2 in 7..0 (spec/INDEX.md); a 1-byte row leaves the second byte 0. Log entry 18. -/
def tableBytes (nbits w : Nat) : Byte × Byte :=
  if nbits ≤ 8 then (BitVec.ofNat 8 w, 0#8) else (BitVec.ofNat 8 (w / 256), BitVec.ofNat 8 w)

/-- The instruction this decoder reads from a word of the opcode table. -/
def decodeTableWord (nbits w : Nat) : Option Instr :=
  match decode (tableBytes nbits w).1 (tableBytes nbits w).2 with
  | .ok i => some i
  | .error _ => none

end Sys2Proof
end

