-- ==== Sys2Proof/Machine/State.lean ====
section
/-! DEFINITION. The state of one HTG13J0 (10_state.md R20), as plain data, the reasons a step can stop, and the state after
reset (R44). Names are the spec's: `stk.pc` is STK.pc, `snd.on` is SND.on, and so on. -/

namespace Sys2Proof.Machine

/-- The five working registers R0..R4 (R22). -/
structure Regs where
  r0 : Nibble
  r1 : Nibble
  r2 : Nibble
  r3 : Nibble
  r4 : Nibble
deriving DecidableEq, Repr

/-- The one-level stack register (R29). `written` and `cWritten` are the MODEL's own: whether STK.pc, and whether STK.c,
has been written since reset (R191, R192; log entries 11, 12). -/
structure Stack where
  pc : ProgAddr
  c : Bool
  written : Bool
  cWritten : Bool
deriving DecidableEq, Repr

/-- The sound state (R37): a sound plays, which of the sixteen, and SLOOP (true) or SONE (false) mode. -/
structure Sound where
  on : Bool
  ch : Nibble
  loop : Bool
deriving DecidableEq, Repr

/-- What the outside puts on the four pins of one input port: bit i of `driven` says that pin i is driven, and then bit i
of `high` is its level (R40). -/
structure PortDrive where
  driven : Nibble
  high : Nibble
deriving DecidableEq, Repr

/-- What the outside puts on the pins PS0-PS3 and PP0-PP3 (R40). -/
structure Pins where
  ps : PortDrive
  pp : PortDrive
deriving DecidableEq, Repr

/-- What can happen outside the CPU (60_exceptions.md R230, R260; log entry 8). -/
inductive Event where
  /-- Nothing happens during this step. -/
  | idle
  /-- A low pulse on RES of at least tRES (R270). -/
  | resetPulse
  /-- The outside puts new levels on the input pins (R40, R241). -/
  | pinsChange (p : Pins)
  /-- The sound that is playing reaches its end (R37). -/
  | soundEnds
deriving DecidableEq, Repr

/-- The whole machine. -/
structure State where
  /-- ACC (R21). -/
  acc : Nibble
  /-- R0..R4 (R22). -/
  r : Regs
  /-- C, the carry flag (R24). -/
  c : Bool
  /-- PC (R25). -/
  pc : ProgAddr
  /-- PA, the port A latch; bit 3 is the ROM bank bit (R28). -/
  pa : Nibble
  /-- STK (R29). -/
  stk : Stack
  /-- SUBF, within a subroutine or a service routine (R30). -/
  subf : Bool
  /-- TMR (R31). -/
  tmr : Byte
  /-- TON (R32). -/
  ton : Bool
  /-- TF (R33). -/
  tf : Bool
  /-- The phase of the timer's clock divider, in oscillator periods (R42, R251). -/
  phase : Nat
  /-- IE (R34). -/
  ie : Bool
  /-- EXF, the external interrupt latch (R35). -/
  exf : Bool
  /-- HALTED (R36). -/
  halted : Bool
  /-- SND (R37). -/
  snd : Sound
  /-- RAM: the cells written since the last reset, by address (R38; log entries 1, 22). -/
  ram : List (Nat × BitVec 4)
  /-- ROM: the program bytes known, by 13-bit physical address (R39; log entry 2). -/
  rom : List Host.Cell
  /-- The MODEL's own: the number of the last reset, which indexes the values it left unspecified (log entry 4). -/
  era : Nat
  /-- The MODEL's own: how many free values have been drawn. -/
  draws : Nat
  /-- The levels the outside puts on the input pins (R40). -/
  pins : Pins
  /-- What happens outside, one event a step, the next first; nothing more happens where it is empty (log entry 8). -/
  env : List Event
  /-- The constants of this chip; no step changes them (R7, R8; log entry 5). -/
  chip : Config.Chip
deriving DecidableEq, Repr

/-- The named stops of 60_exceptions.md R231. The hardware has no traps: each is a point where the spec gives no
behaviour, so stopping is SAFE (the machine may go on, the model claims nothing about it). -/
inductive Fault where
  /-- A data-memory access at A0H-AFH (20_memory.md R66): raised by every instruction with a `[R1R0]` or `[R3R2]`
  operand and by the table reads. Safe. Log entry 14. -/
  | undefinedRam (a : DataAddr)
  /-- First byte 32H or 35H fetched at `a` (R101): raised by the step. Safe. Log entry 15. -/
  | undefinedOpcode (a : ProgAddr) (b1 : Byte)
  /-- A second byte with printed-zero bits set, or 37H without 3EH (R102, R103): raised by the step. Safe. Log entry
  15. -/
  | reservedOperand (a : ProgAddr) (b1 b2 : Byte)
  /-- `CALL` at `a` while SUBF = 1 (R198): raised by `CALL`. Safe. Log entry 13. -/
  | nestedCall (a : ProgAddr)
  /-- `RET` or `RETI` at `a` when nothing has written the stack register since reset, the spec's own fault (R191, R192,
  R231, U7): raised by them. Safe. Log entry 12. -/
  | stackUnwritten (a : ProgAddr)
deriving DecidableEq, Repr

/-- Reasons to refuse an instruction. -/
inductive Refusal where
  /-- The instruction has no meaning in this model; every instruction has one, so nothing raises this. Safe. -/
  | notModelled (mnemonic : String)
deriving DecidableEq, Repr

/-- The answer of a meaning or a step. -/
abbrev Result := Host.Outcome State Fault Refusal

/-- The chip that `State.reset` describes: the parameter values of the conventions of 95_test_vectors.md where it names
them (TIMER_DIV 2, timer first, first high), every pin with pull-high and wake-up option, CMOS pads, 1 MHz. DESIGN
CHOICE, log entry 5. -/
def chipAtReset : Config.Chip where
  pullHigh := ⟨0xF#4, 0xF#4⟩
  wake := ⟨0xF#4, 0xF#4⟩
  paType0 := .cmos
  paType1 := .cmos
  paType2 := .cmos
  timerDiv := .n2
  soundDiv := .m3
  fsysHz := 1000000
  imm8Order := .firstHigh
  intPriority := .timerFirst

/-- The machine right after reset (R44). Where R44 says 'unspecified' the register holds 0: DESIGN CHOICE, log entry
3. Memory lists nothing; the pins are not driven and no event is due (log entries 1, 2, 8). -/
def State.reset : State where
  acc := 0#4
  r := ⟨0#4, 0#4, 0#4, 0#4, 0#4⟩
  c := false
  pc := 0x000#12
  pa := 0xF#4
  stk := ⟨0x000#12, false, false, false⟩
  subf := false
  tmr := 0x00#8
  ton := false
  tf := false
  phase := 0
  ie := false
  exf := false
  halted := false
  snd := ⟨false, 0#4, false⟩
  ram := []
  rom := []
  era := 0
  draws := 1
  pins := ⟨⟨0#4, 0#4⟩, ⟨0#4, 0#4⟩⟩
  env := []
  chip := chipAtReset

end Sys2Proof.Machine
end

