-- ==== Sys2Proof/Machine/Ops.lean ====
section
/-! DEFINITION. The named operations over State: one update per field, the two memories, the working registers, the program
counter, and TAKING AN INTERRUPT and returning from one, each once (60_exceptions.md R238, R240). -/

namespace Sys2Proof.Machine

/-! ## One update per field -/

/-- Write ACC. -/
def State.setAcc (s : State) (v : Nibble) : State := { s with acc := v }

/-- Write C. -/
def State.setCarry (s : State) (v : Bool) : State := { s with c := v }

/-- Write PC. -/
def State.setPc (s : State) (v : ProgAddr) : State := { s with pc := v }

/-- Write PA. -/
def State.setPa (s : State) (v : Nibble) : State := { s with pa := v }

/-- Write the stack register. -/
def State.setStk (s : State) (v : Stack) : State := { s with stk := v }

/-- Write SUBF. -/
def State.setSubf (s : State) (v : Bool) : State := { s with subf := v }

/-- Write TMR. -/
def State.setTmr (s : State) (v : Byte) : State := { s with tmr := v }

/-- Write TON. -/
def State.setTon (s : State) (v : Bool) : State := { s with ton := v }

/-- Write TF. -/
def State.setTf (s : State) (v : Bool) : State := { s with tf := v }

/-- Write the divider phase. -/
def State.setPhase (s : State) (v : Nat) : State := { s with phase := v }

/-- Write IE. -/
def State.setIe (s : State) (v : Bool) : State := { s with ie := v }

/-- Write EXF. -/
def State.setExf (s : State) (v : Bool) : State := { s with exf := v }

/-- Write HALTED. -/
def State.setHalted (s : State) (v : Bool) : State := { s with halted := v }

/-- Write the sound state. -/
def State.setSnd (s : State) (v : Sound) : State := { s with snd := v }

/-- Write the list of RAM cells. -/
def State.setRam (s : State) (v : List (Nat × BitVec 4)) : State := { s with ram := v }

/-- Write the list of ROM bytes. -/
def State.setRom (s : State) (v : List Host.Cell) : State := { s with rom := v }

/-- Write the count of draws. -/
def State.setDraws (s : State) (v : Nat) : State := { s with draws := v }

/-- Write what drives the pins. -/
def State.setPins (s : State) (v : Pins) : State := { s with pins := v }

/-- Write the events to come. -/
def State.setEnv (s : State) (v : List Event) : State := { s with env := v }

/-! ## Working registers (R22) -/

/-- The number n of a working register Rn. -/
inductive Reg where
  | r0 | r1 | r2 | r3 | r4
deriving DecidableEq, Repr

/-- R[n]. -/
def Regs.get (x : Regs) : Reg → Nibble
  | .r0 => x.r0
  | .r1 => x.r1
  | .r2 => x.r2
  | .r3 => x.r3
  | .r4 => x.r4

/-- R[n] <- v. -/
def Regs.set (x : Regs) (n : Reg) (v : Nibble) : Regs :=
  match n with
  | .r0 => { x with r0 := v }
  | .r1 => { x with r1 := v }
  | .r2 => { x with r2 := v }
  | .r3 => { x with r3 := v }
  | .r4 => { x with r4 := v }

/-- Write one working register. -/
def State.setReg (s : State) (n : Reg) (v : Nibble) : State := { s with r := s.r.set n v }

/-! ## Memory as a list of cells

One canonical form for both memories: addresses strictly rising, every address one that exists. An unlisted address has NO
value in the list, so no entry can equal it; the machine supplies the free value of an unlisted RAM cell or ROM byte in
`State.cell` and `State.romByte` (log entries 1, 2). -/

/-- The value listed at address `a`. -/
def Memory.find {w : Nat} : List (Nat × BitVec w) → Nat → Option (BitVec w)
  | [], _ => none
  | (k, v) :: rest, a => if a = k then some v else Memory.find rest a

/-- List the value `v` at address `a`, in its place. -/
def Memory.put {w : Nat} : List (Nat × BitVec w) → Nat → BitVec w → List (Nat × BitVec w)
  | [], a, v => [(a, v)]
  | (k, x) :: rest, a, v =>
    if a < k then (a, v) :: (k, x) :: rest
    else if a = k then (a, v) :: rest
    else (k, x) :: Memory.put rest a v

/-- Addresses strictly rising. -/
def Memory.rising {w : Nat} : List (Nat × BitVec w) → Bool
  | [] => true
  | [_] => true
  | (k, _) :: (k', v) :: rest => decide (k < k') && Memory.rising ((k', v) :: rest)

/-- The canonical form: strictly rising, and every listed address exists. -/
def Memory.wf {w : Nat} (existing : Nat → Bool) (m : List (Nat × BitVec w)) : Bool :=
  Memory.rising m && m.all fun e => existing e.1

/-! ## Data memory (R65, R66) -/

/-- R66: the addresses that can be used, 00H-9FH and B0H-FFH; A0H-AFH cannot. -/
def ramExists (a : Nat) : Bool := decide (a < 0xA0 ∨ (0xB0 ≤ a ∧ a ≤ 0xFF))

/-- What the cell at `a` holds: the value last written, or the free value the last reset left there (R44, R66; log
entry 1). -/
def State.cell (s : State) (a : DataAddr) : Nibble :=
  (Memory.find s.ram a.toNat).getD (Config.ramAtReset s.era a.toNat)

/-- `MemRead(a, 1)`: read one cell and go on with its value, or stop at an address that cannot be used (R66). -/
def memRead (s : State) (a : DataAddr) (k : Nibble → Result) : Result :=
  if ramExists a.toNat then k (s.cell a) else .fault (.undefinedRam a)

/-- The state after cell `a` is written with `v`. -/
def State.setCell (s : State) (a : DataAddr) (v : Nibble) : State := s.setRam (Memory.put s.ram a.toNat v)

/-- `MemWrite(a, 1, v)`: write one cell and go on, or stop at an address that cannot be used (R66). -/
def memWrite (s : State) (a : DataAddr) (v : Nibble) (k : State → Result) : Result :=
  if ramExists a.toNat then k (s.setCell a v) else .fault (.undefinedRam a)

/-! ## Program memory (R61) -/

/-- R61: the 8192 physical addresses. -/
def romExists (p : Nat) : Bool := decide (p < 8192)

/-- R61: the physical address `PA[3]:p`. -/
def State.physical (s : State) (p : ProgAddr) : BitVec 13 := s.pa.extractLsb' 3 1 ++ p

/-- The ROM byte at a physical address: the byte listed, or the mask ROM's own byte, a free value (R39; log entry 2). -/
def State.romByte (s : State) (p : BitVec 13) : Byte :=
  (Memory.find s.rom p.toNat).getD (Config.maskRom p.toNat)

/-- `RomRead(PA[3], p)`: the byte at `p` of the current bank (R61). -/
def State.romRead (s : State) (p : ProgAddr) : Byte := s.romByte (s.physical p)

/-! ## The program counter (R26) -/

/-- `nxt = (a + len) mod 4096` with `a` the address in PC (R10, R26). -/
def State.nxt (s : State) (len : Nat) : ProgAddr := s.pc + BitVec.ofNat 12 len

/-- `PC <- nxt`. -/
def State.advance (s : State) (len : Nat) : State := s.setPc (s.nxt len)

/-! ## Interrupts (R233-R240) -/

/-- The two interrupt sources. -/
inductive IntSource where
  | timer
  | external
deriving DecidableEq, Repr

/-- R234, R235: the vectors, 12-bit addresses in the current bank. -/
def IntSource.vector : IntSource → ProgAddr
  | .timer => 0x004#12
  | .external => 0x008#12

/-- The interrupt to take at this instruction boundary, if any: pending, IE = 1 and SUBF = 0 (R233), in the order of
INT_PRIORITY where both are pending (R237). -/
def interruptDue (s : State) : Option IntSource :=
  if s.ie && !s.subf then
    match s.tf, s.exf with
    | false, false => none
    | true, false => some .timer
    | false, true => some .external
    | true, true =>
      match s.chip.intPriority with
      | .timerFirst => some .timer
      | .externalFirst => some .external
  else none

/-- The pending bit of the source that is taken is cleared (R234, R235). -/
def clearPending (src : IntSource) (s : State) : State :=
  match src with
  | .timer => s.setTf false
  | .external => s.setExf false

/-- Taking an interrupt (R238): PC and C go to the stack register, SUBF is set, the pending bit cleared, PC at the vector
of the current bank; nothing else changes. -/
def interruptEntry (src : IntSource) (s : State) : State :=
  ((clearPending src (s.setStk ⟨s.pc, s.c, true, true⟩)).setSubf true).setPc src.vector

/-- The carry that `RETI` restores: STK.c, or the unspecified bit reset left there if no interrupt entry has written it
since (R192; log entry 11). -/
def State.savedCarry (s : State) : Bool := if s.stk.cWritten then s.stk.c else Config.stkCAtReset s.era

/-- Returning (R191, R192, R240): PC from the stack register, SUBF cleared, C restored only by `RETI`; the entry stays. A
stack register never written since reset stops by name, as the spec states (R191, R192, R231, D23, U7; log entry 12). -/
def returnFrom (restoreCarry : Bool) (s : State) : Result :=
  if s.stk.written then
    .next (((if restoreCarry then s.setCarry s.savedCarry else s).setPc s.stk.pc).setSubf false)
  else .fault (.stackUnwritten s.pc)

end Sys2Proof.Machine
end

