-- ==== Sys2Proof/Machine/Flags.lean ====
section
/-! DEFINITION. The arithmetic of the 4-bit ALU and every computation of the carry flag, the machine's only arithmetic flag
(10_state.md R24; 40_arithmetic.md R120, R127; 44_rotate_io.md R164). -/

namespace Sys2Proof.Machine

/-- `add4(x, y, cin)`: the natural number `x + y + cin`, at most 31 (R10). -/
def add4 (x y : Nibble) (cin : Bool) : Nat := x.toNat + y.toNat + cin.toNat

/-- Bits [3:0] of a 5-bit sum (R10). -/
def sum4 (t : Nat) : Nibble := BitVec.ofNat 4 t

/-- Bit [4] of a 5-bit sum, the carry out (R10, R120; log entry 17). -/
def carry4 (t : Nat) : Bool := t.testBit 4

/-- `s = add4(ACC, y, cin); ACC <- s[3:0]; C <- s[4]` (R120). -/
def addToAcc (y : Nibble) (cin : Bool) (s : State) : State :=
  (s.setAcc (sum4 (add4 s.acc y cin))).setCarry (carry4 (add4 s.acc y cin))

/-- Subtraction is the addition of the complement of the operand (R120): C = 1 afterwards means no borrow. -/
def subFromAcc (y : Nibble) (cin : Bool) (s : State) : State := addToAcc (~~~y) cin s

/-- R127: whether `DAA` adjusts. -/
def daaAdjusts (s : State) : Bool := decide (9 < s.acc.toNat) || s.c

/-- R127: the decimal adjustment, `ACC <- (ACC + 6) mod 16; C <- 1`, or nothing. -/
def decimalAdjust (s : State) : State := if daaAdjusts s then (s.setAcc (s.acc + 6#4)).setCarry true else s

/-- R165: `A2:A1:A0:A3`, carry `A3`. -/
def rotateLeft (s : State) : State :=
  (s.setAcc (s.acc.extractLsb' 0 3 ++ s.acc.extractLsb' 3 1)).setCarry (s.acc.getLsbD 3)

/-- R166: `A2:A1:A0:C`, carry `A3`. -/
def rotateLeftCarry (s : State) : State :=
  (s.setAcc (s.acc.extractLsb' 0 3 ++ BitVec.ofBool s.c)).setCarry (s.acc.getLsbD 3)

/-- R167: `A0:A3:A2:A1`, carry `A0`. -/
def rotateRight (s : State) : State :=
  (s.setAcc (s.acc.extractLsb' 0 1 ++ s.acc.extractLsb' 1 3)).setCarry (s.acc.getLsbD 0)

/-- R168: `C:A3:A2:A1`, carry `A0`. -/
def rotateRightCarry (s : State) : State :=
  (s.setAcc (BitVec.ofBool s.c ++ s.acc.extractLsb' 1 3)).setCarry (s.acc.getLsbD 0)

end Sys2Proof.Machine
end

