-- ==== Sys2Proof/Machine/Operands.lean ====
section
/-! DEFINITION. The operand forms: the data pointers (10_state.md R23), the two nibbles of an 8-bit immediate (30_encoding.md
R96), the timer's nibbles (47_timer.md R207), branch targets (45_branch.md R175), table addresses (48_tableread.md R210) and
the levels of an input port (10_state.md R40). -/

namespace Sys2Proof.Machine

/-- `DP10 = R[1]:R[0]` (R23). -/
def dp10 (s : State) : DataAddr := s.r.r1 ++ s.r.r0

/-- `DP32 = R[3]:R[2]` (R23). -/
def dp32 (s : State) : DataAddr := s.r.r3 ++ s.r.r2

/-- `XXH` of format F2P: `e` is B1[3:0] and `f` is B2[3:0]; which is the high nibble is IMM8_ORDER (R96; log entry 6). -/
def imm8 (order : Config.Imm8Order) (e f : Nibble) : Byte :=
  match order with
  | .firstHigh => e ++ f
  | .firstLow => f ++ e

/-- The high nibble of a byte, `v[7:4]`. -/
def highNibble (v : Byte) : Nibble := v.extractLsb' 4 4

/-- The low nibble of a byte, `v[3:0]`. -/
def lowNibble (v : Byte) : Nibble := v.extractLsb' 0 4

/-- The target of a taken conditional jump: bit 11 of `nxt`, then the 11 bits of the instruction (R98, R175; log entry
19). -/
def condTarget (s : State) (addr : BitVec 11) : ProgAddr := (s.nxt 2).extractLsb' 11 1 ++ addr

/-- A conditional jump: PC to the target if taken, else to `nxt` (R175). -/
def jumpIf (taken : Bool) (addr : BitVec 11) (s : State) : State :=
  s.setPc (if taken then condTarget s addr else s.nxt 2)

/-- The current page: PC[11:8] after the fetch increment of a 1-byte instruction (R210; log entry 19). -/
def currentPage (s : State) : Nibble := (s.nxt 1).extractLsb' 8 4

/-- The 12-bit table address `page:ACC:low` (R210). -/
def tableAddr (page acc low : Nibble) : ProgAddr := (page ++ acc) ++ low

/-- Read a cell, write a function of its value back, and go on to the next instruction: one indivisible read and write of
one cell (R72). -/
def updateCell (s : State) (a : DataAddr) (g : Nibble → Nibble) : Result :=
  memRead s a fun m => memWrite s a (g m) fun t => .next (t.advance 1)

/-- The levels of four pins: what drives them, else 1 where the pull-high option is selected, else the free bits of `free`
(R40, R256; U9; log entry 10). -/
def portLevels (pull : Nibble) (d : PortDrive) (free : Nibble) : Nibble :=
  let known := (d.driven &&& d.high) ||| (~~~d.driven &&& pull)
  let floating := ~~~d.driven &&& ~~~pull
  if floating = 0#4 then known else known ||| (floating &&& free)

/-- The levels of PS3..PS0 now (R169). -/
def psLevels (s : State) : Nibble := portLevels s.chip.pullHigh.ps s.pins.ps (Config.floatingPs s.draws)

/-- The levels of PP3..PP0 now (R170). -/
def ppLevels (s : State) : Nibble := portLevels s.chip.pullHigh.pp s.pins.pp (Config.floatingPp s.draws)

end Sys2Proof.Machine
end

