-- ==== Sys2Proof/Machine/Arithmetic.lean ====
section
/-! DEFINITION. The arithmetic instructions (40_arithmetic.md R120-R128). -/

namespace Sys2Proof.Machine

/-- `ADD A,[R1R0]` (R121). -/
def execAddAM10 (s : State) : Result := memRead s (dp10 s) fun m => .next ((addToAcc m false s).advance 1)

/-- `ADC A,[R1R0]` (R122). -/
def execAdcAM10 (s : State) : Result := memRead s (dp10 s) fun m => .next ((addToAcc m s.c s).advance 1)

/-- `SUB A,[R1R0]` (R123). -/
def execSubAM10 (s : State) : Result := memRead s (dp10 s) fun m => .next ((subFromAcc m true s).advance 1)

/-- `SBC A,[R1R0]` (R124). -/
def execSbcAM10 (s : State) : Result := memRead s (dp10 s) fun m => .next ((subFromAcc m s.c s).advance 1)

/-- `ADD A,XH` (R125). -/
def execAddAX (d : Nibble) (s : State) : Result := .next ((addToAcc d false s).advance 2)

/-- `SUB A,XH` (R126). -/
def execSubAX (d : Nibble) (s : State) : Result := .next ((subFromAcc d true s).advance 2)

/-- `DAA` (R127). -/
def execDaa (s : State) : Result := .next ((decimalAdjust s).advance 1)

end Sys2Proof.Machine
end

