-- ==== Sys2Proof/Machine/Branch.lean ====
section
/-! DEFINITION. The branch instructions (45_branch.md R175-R184). -/

namespace Sys2Proof.Machine

/-- `JMP address` (R176). -/
def execJmp (addr : BitVec 12) (s : State) : Result := .next (s.setPc addr)

/-- `JC address` (R177). -/
def execJc (addr : BitVec 11) (s : State) : Result := .next (jumpIf s.c addr s)

/-- `JNC address` (R178). -/
def execJnc (addr : BitVec 11) (s : State) : Result := .next (jumpIf (!s.c) addr s)

/-- `JTMR address` (R179): TF is cleared whether or not the jump is taken. -/
def execJtmr (addr : BitVec 11) (s : State) : Result := .next ((jumpIf s.tf addr s).setTf false)

/-- `JA0 address` (R180). -/
def execJa0 (addr : BitVec 11) (s : State) : Result := .next (jumpIf (s.acc.getLsbD 0) addr s)

/-- `JA1 address` (R180). -/
def execJa1 (addr : BitVec 11) (s : State) : Result := .next (jumpIf (s.acc.getLsbD 1) addr s)

/-- `JA2 address` (R180). -/
def execJa2 (addr : BitVec 11) (s : State) : Result := .next (jumpIf (s.acc.getLsbD 2) addr s)

/-- `JA3 address` (R180). -/
def execJa3 (addr : BitVec 11) (s : State) : Result := .next (jumpIf (s.acc.getLsbD 3) addr s)

/-- `JZ A,address` (R181). -/
def execJzA (addr : BitVec 11) (s : State) : Result := .next (jumpIf (s.acc == 0#4) addr s)

/-- `JNZ A,address` (R182). -/
def execJnzA (addr : BitVec 11) (s : State) : Result := .next (jumpIf (s.acc != 0#4) addr s)

/-- `JNZ R0,address` (R183). -/
def execJnzR0 (addr : BitVec 11) (s : State) : Result := .next (jumpIf (s.r.r0 != 0#4) addr s)

/-- `JNZ R1,address` (R183). -/
def execJnzR1 (addr : BitVec 11) (s : State) : Result := .next (jumpIf (s.r.r1 != 0#4) addr s)

/-- `JNZ R4,address` (R183). -/
def execJnzR4 (addr : BitVec 11) (s : State) : Result := .next (jumpIf (s.r.r4 != 0#4) addr s)

end Sys2Proof.Machine
end

