-- ==== Sys2Proof/Machine/DataMove.lean ====
section
/-! DEFINITION. The data-move instructions (43_datamove.md R150-R160). None touches C. -/

namespace Sys2Proof.Machine

/-- `MOV A,R0` (R151). -/
def execMovAR0 (s : State) : Result := .next ((s.setAcc s.r.r0).advance 1)

/-- `MOV A,R1` (R151). -/
def execMovAR1 (s : State) : Result := .next ((s.setAcc s.r.r1).advance 1)

/-- `MOV A,R2` (R151). -/
def execMovAR2 (s : State) : Result := .next ((s.setAcc s.r.r2).advance 1)

/-- `MOV A,R3` (R151). -/
def execMovAR3 (s : State) : Result := .next ((s.setAcc s.r.r3).advance 1)

/-- `MOV A,R4` (R151). -/
def execMovAR4 (s : State) : Result := .next ((s.setAcc s.r.r4).advance 1)

/-- `MOV R0,A` (R152). -/
def execMovR0A (s : State) : Result := .next ((s.setReg .r0 s.acc).advance 1)

/-- `MOV R1,A` (R152). -/
def execMovR1A (s : State) : Result := .next ((s.setReg .r1 s.acc).advance 1)

/-- `MOV R2,A` (R152). -/
def execMovR2A (s : State) : Result := .next ((s.setReg .r2 s.acc).advance 1)

/-- `MOV R3,A` (R152). -/
def execMovR3A (s : State) : Result := .next ((s.setReg .r3 s.acc).advance 1)

/-- `MOV R4,A` (R152). -/
def execMovR4A (s : State) : Result := .next ((s.setReg .r4 s.acc).advance 1)

/-- `MOV A,[R1R0]` (R153). -/
def execMovAM10 (s : State) : Result := memRead s (dp10 s) fun m => .next ((s.setAcc m).advance 1)

/-- `MOV A,[R3R2]` (R154). -/
def execMovAM32 (s : State) : Result := memRead s (dp32 s) fun m => .next ((s.setAcc m).advance 1)

/-- `MOV [R1R0],A` (R155). -/
def execMovM10A (s : State) : Result := memWrite s (dp10 s) s.acc fun t => .next (t.advance 1)

/-- `MOV [R3R2],A` (R156). -/
def execMovM32A (s : State) : Result := memWrite s (dp32 s) s.acc fun t => .next (t.advance 1)

/-- `MOV A,XH` (R157). -/
def execMovAX (d : Nibble) (s : State) : Result := .next ((s.setAcc d).advance 1)

/-- `MOV R1R0,XXH` (R158): the high nibble of XXH to R1, the low nibble to R0. -/
def execMovR1R0X (e f : Nibble) (s : State) : Result :=
  let x := imm8 s.chip.imm8Order e f
  .next (((s.setReg .r1 (highNibble x)).setReg .r0 (lowNibble x)).advance 2)

/-- `MOV R3R2,XXH` (R159): the high nibble of XXH to R3, the low nibble to R2. -/
def execMovR3R2X (e f : Nibble) (s : State) : Result :=
  let x := imm8 s.chip.imm8Order e f
  .next (((s.setReg .r3 (highNibble x)).setReg .r2 (lowNibble x)).advance 2)

/-- `MOV R4,XH` (R160). -/
def execMovR4X (d : Nibble) (s : State) : Result := .next ((s.setReg .r4 d).advance 2)

end Sys2Proof.Machine
end

