-- ==== Sys2Proof/Machine/IncDec.lean ====
section
/-! DEFINITION. The increment and decrement instructions (42_incdec.md R140-R148). None touches C. -/

namespace Sys2Proof.Machine

/-- `INC A` (R141). -/
def execIncA (s : State) : Result := .next ((s.setAcc (s.acc + 1#4)).advance 1)

/-- `INC R0` (R142). -/
def execIncR0 (s : State) : Result := .next ((s.setReg .r0 (s.r.r0 + 1#4)).advance 1)

/-- `INC R1` (R142). -/
def execIncR1 (s : State) : Result := .next ((s.setReg .r1 (s.r.r1 + 1#4)).advance 1)

/-- `INC R2` (R142). -/
def execIncR2 (s : State) : Result := .next ((s.setReg .r2 (s.r.r2 + 1#4)).advance 1)

/-- `INC R3` (R142). -/
def execIncR3 (s : State) : Result := .next ((s.setReg .r3 (s.r.r3 + 1#4)).advance 1)

/-- `INC R4` (R142). -/
def execIncR4 (s : State) : Result := .next ((s.setReg .r4 (s.r.r4 + 1#4)).advance 1)

/-- `INC [R1R0]` (R143). -/
def execIncM10 (s : State) : Result := updateCell s (dp10 s) fun m => m + 1#4

/-- `INC [R3R2]` (R144). -/
def execIncM32 (s : State) : Result := updateCell s (dp32 s) fun m => m + 1#4

/-- `DEC A` (R145). -/
def execDecA (s : State) : Result := .next ((s.setAcc (s.acc - 1#4)).advance 1)

/-- `DEC R0` (R146). -/
def execDecR0 (s : State) : Result := .next ((s.setReg .r0 (s.r.r0 - 1#4)).advance 1)

/-- `DEC R1` (R146). -/
def execDecR1 (s : State) : Result := .next ((s.setReg .r1 (s.r.r1 - 1#4)).advance 1)

/-- `DEC R2` (R146). -/
def execDecR2 (s : State) : Result := .next ((s.setReg .r2 (s.r.r2 - 1#4)).advance 1)

/-- `DEC R3` (R146). -/
def execDecR3 (s : State) : Result := .next ((s.setReg .r3 (s.r.r3 - 1#4)).advance 1)

/-- `DEC R4` (R146). -/
def execDecR4 (s : State) : Result := .next ((s.setReg .r4 (s.r.r4 - 1#4)).advance 1)

/-- `DEC [R1R0]` (R147). -/
def execDecM10 (s : State) : Result := updateCell s (dp10 s) fun m => m - 1#4

/-- `DEC [R3R2]` (R148). -/
def execDecM32 (s : State) : Result := updateCell s (dp32 s) fun m => m - 1#4

end Sys2Proof.Machine
end

