-- ==== Sys2Proof/Machine/Logic.lean ====
section
/-! DEFINITION. The logic instructions (41_logic.md R130-R139). None touches C. -/

namespace Sys2Proof.Machine

/-- `AND A,[R1R0]` (R131). -/
def execAndAM10 (s : State) : Result := memRead s (dp10 s) fun m => .next ((s.setAcc (s.acc &&& m)).advance 1)

/-- `OR A,[R1R0]` (R132). -/
def execOrAM10 (s : State) : Result := memRead s (dp10 s) fun m => .next ((s.setAcc (s.acc ||| m)).advance 1)

/-- `XOR A,[R1R0]` (R133). -/
def execXorAM10 (s : State) : Result := memRead s (dp10 s) fun m => .next ((s.setAcc (s.acc ^^^ m)).advance 1)

/-- `AND [R1R0],A` (R134). -/
def execAndM10A (s : State) : Result := updateCell s (dp10 s) fun m => m &&& s.acc

/-- `OR [R1R0],A` (R135). -/
def execOrM10A (s : State) : Result := updateCell s (dp10 s) fun m => m ||| s.acc

/-- `XOR [R1R0],A` (R136). -/
def execXorM10A (s : State) : Result := updateCell s (dp10 s) fun m => m ^^^ s.acc

/-- `AND A,XH` (R137). -/
def execAndAX (d : Nibble) (s : State) : Result := .next ((s.setAcc (s.acc &&& d)).advance 2)

/-- `OR A,XH` (R138). -/
def execOrAX (d : Nibble) (s : State) : Result := .next ((s.setAcc (s.acc ||| d)).advance 2)

/-- `XOR A,XH` (R139). -/
def execXorAX (d : Nibble) (s : State) : Result := .next ((s.setAcc (s.acc ^^^ d)).advance 2)

end Sys2Proof.Machine
end

