-- ==== Sys2Proof/Machine/RotateIo.lean ====
section
/-! DEFINITION. The rotate and input/output instructions (44_rotate_io.md R164-R172). -/

namespace Sys2Proof.Machine

/-- `RL A` (R165). -/
def execRlA (s : State) : Result := .next ((rotateLeft s).advance 1)

/-- `RLC A` (R166). -/
def execRlcA (s : State) : Result := .next ((rotateLeftCarry s).advance 1)

/-- `RR A` (R167). -/
def execRrA (s : State) : Result := .next ((rotateRight s).advance 1)

/-- `RRC A` (R168). -/
def execRrcA (s : State) : Result := .next ((rotateRightCarry s).advance 1)

/-- `IN A,PS` (R169): the pin levels at execution; each look draws anew (U9). -/
def execInAPs (s : State) : Result := .next (((s.setAcc (psLevels s)).setDraws (s.draws + 1)).advance 1)

/-- `IN A,PP` (R170). -/
def execInAPp (s : State) : Result := .next (((s.setAcc (ppLevels s)).setDraws (s.draws + 1)).advance 1)

/-- `OUT PA,A` (R171): all four bits, bit 3 the ROM bank bit for the next fetch (R62; log entry 20). -/
def execOutPaA (s : State) : Result := .next ((s.setPa s.acc).advance 1)

end Sys2Proof.Machine
end

