-- ==== Sys2Proof/Machine/SoundHalt.lean ====
section
/-! DEFINITION. The sound-control instructions and HALT (49_sound_halt.md R220-R227). -/

namespace Sys2Proof.Machine

/-- `SOUND n` (R220): the mode stays. -/
def execSoundN (n : Nibble) (s : State) : Result := .next ((s.setSnd { s.snd with on := true, ch := n }).advance 2)

/-- `SOUND A` (R221). -/
def execSoundA (s : State) : Result := .next ((s.setSnd { s.snd with on := true, ch := s.acc }).advance 1)

/-- `SOUND ONE` (R222). -/
def execSoundOne (s : State) : Result := .next ((s.setSnd { s.snd with loop := false }).advance 1)

/-- `SOUND LOOP` (R223). -/
def execSoundLoop (s : State) : Result := .next ((s.setSnd { s.snd with loop := true }).advance 1)

/-- `SOUND OFF` (R224). -/
def execSoundOff (s : State) : Result := .next ((s.setSnd { s.snd with on := false }).advance 1)

/-- `HALT` (R225): PC at the instruction after it; EXF stays. -/
def execHalt (s : State) : Result := .next ((s.setHalted true).advance 2)

end Sys2Proof.Machine
end

