-- ==== Sys2Proof/Machine/Subroutine.lean ====
section
/-! DEFINITION. The subroutine and flag instructions (46_subroutine_flag.md R190-R199). -/

namespace Sys2Proof.Machine

/-- `CALL address` (R190): the return address to STK.pc, STK.c not written, SUBF set. Inside a subroutine or a service
routine the spec gives no behaviour (R198; log entry 13). -/
def execCall (addr : BitVec 12) (s : State) : Result :=
  if s.subf then .fault (.nestedCall s.pc)
  else .next (((s.setStk { s.stk with pc := s.nxt 2, written := true }).setSubf true).setPc addr)

/-- `RET` (R191). -/
def execRet (s : State) : Result := returnFrom false s

/-- `RETI` (R192). -/
def execReti (s : State) : Result := returnFrom true s

/-- `CLC` (R193). -/
def execClc (s : State) : Result := .next ((s.setCarry false).advance 1)

/-- `STC` (R194). -/
def execStc (s : State) : Result := .next ((s.setCarry true).advance 1)

/-- `EI` (R195). -/
def execEi (s : State) : Result := .next ((s.setIe true).advance 1)

/-- `DI` (R196). -/
def execDi (s : State) : Result := .next ((s.setIe false).advance 1)

/-- `NOP` (R197). -/
def execNop (s : State) : Result := .next (s.advance 1)

end Sys2Proof.Machine
end

