-- ==== Sys2Proof/Machine/TableRead.lean ====
section
/-! DEFINITION. The table-read instructions (48_tableread.md R210-R215). All address operands are read before a destination is
written (R210). No flag changes. -/

namespace Sys2Proof.Machine

/-- The end of `READ R4A` and `READF R4A`: the high nibble of the ROM byte to R4, the low nibble to ACC (R210). -/
def tableToR4 (s : State) (page : Nibble) : Result :=
  memRead s (dp10 s) fun m =>
    let t := s.romRead (tableAddr page s.acc m)
    .next (((s.setReg .r4 (highNibble t)).setAcc (lowNibble t)).advance 1)

/-- The end of `READ MR0A` and `READF MR0A`: the high nibble to M(R1,R0), the low nibble to ACC (R210). -/
def tableToCell (s : State) (page : Nibble) : Result :=
  let t := s.romRead (tableAddr page s.acc s.r.r4)
  memWrite s (dp10 s) (highNibble t) fun u => .next ((u.setAcc (lowNibble t)).advance 1)

/-- `READ R4A` (R211): the current page is that of the next instruction (R210). -/
def execReadR4a (s : State) : Result := tableToR4 s (currentPage s)

/-- `READ MR0A` (R212). -/
def execReadMr0a (s : State) : Result := tableToCell s (currentPage s)

/-- `READF R4A` (R213): page F of the current bank. -/
def execReadfR4a (s : State) : Result := tableToR4 s 0xF#4

/-- `READF MR0A` (R214). -/
def execReadfMr0a (s : State) : Result := tableToCell s 0xF#4

end Sys2Proof.Machine
end

