-- ==== Sys2Proof/Machine/TimerInstr.lean ====
section
/-! DEFINITION. The timer instructions (47_timer.md R200-R208). None touches C, TF, IE or the divider. -/

namespace Sys2Proof.Machine

/-- `TIMER XXH` (R200). -/
def execTimerX (d : Byte) (s : State) : Result := .next ((s.setTmr d).advance 2)

/-- `TIMER ON` (R201). -/
def execTimerOn (s : State) : Result := .next ((s.setTon true).advance 1)

/-- `TIMER OFF` (R202). -/
def execTimerOff (s : State) : Result := .next ((s.setTon false).advance 1)

/-- `MOV A,TMRL` (R203). -/
def execMovATmrl (s : State) : Result := .next ((s.setAcc (lowNibble s.tmr)).advance 1)

/-- `MOV A,TMRH` (R204). -/
def execMovATmrh (s : State) : Result := .next ((s.setAcc (highNibble s.tmr)).advance 1)

/-- `MOV TMRL,A` (R205). -/
def execMovTmrlA (s : State) : Result := .next ((s.setTmr (highNibble s.tmr ++ s.acc)).advance 1)

/-- `MOV TMRH,A` (R206). -/
def execMovTmrhA (s : State) : Result := .next ((s.setTmr (s.acc ++ lowNibble s.tmr)).advance 1)

end Sys2Proof.Machine
end

