-- ==== Sys2Proof/Machine/Dispatch.lean ====
section
/-! DEFINITION. One arm per instruction, each a direct call of its meaning. -/

namespace Sys2Proof.Machine

def exec (i : Instr) (s : State) : Host.Outcome State Fault Refusal :=
  match i with
  | .rrA => Sys2Proof.Machine.execRrA s
  | .rlA => Sys2Proof.Machine.execRlA s
  | .rrcA => Sys2Proof.Machine.execRrcA s
  | .rlcA => Sys2Proof.Machine.execRlcA s
  | .movAM10 => Sys2Proof.Machine.execMovAM10 s
  | .movM10A => Sys2Proof.Machine.execMovM10A s
  | .movAM32 => Sys2Proof.Machine.execMovAM32 s
  | .movM32A => Sys2Proof.Machine.execMovM32A s
  | .adcAM10 => Sys2Proof.Machine.execAdcAM10 s
  | .addAM10 => Sys2Proof.Machine.execAddAM10 s
  | .sbcAM10 => Sys2Proof.Machine.execSbcAM10 s
  | .subAM10 => Sys2Proof.Machine.execSubAM10 s
  | .incM10 => Sys2Proof.Machine.execIncM10 s
  | .decM10 => Sys2Proof.Machine.execDecM10 s
  | .incM32 => Sys2Proof.Machine.execIncM32 s
  | .decM32 => Sys2Proof.Machine.execDecM32 s
  | .incR0 => Sys2Proof.Machine.execIncR0 s
  | .decR0 => Sys2Proof.Machine.execDecR0 s
  | .incR1 => Sys2Proof.Machine.execIncR1 s
  | .decR1 => Sys2Proof.Machine.execDecR1 s
  | .incR2 => Sys2Proof.Machine.execIncR2 s
  | .decR2 => Sys2Proof.Machine.execDecR2 s
  | .incR3 => Sys2Proof.Machine.execIncR3 s
  | .decR3 => Sys2Proof.Machine.execDecR3 s
  | .incR4 => Sys2Proof.Machine.execIncR4 s
  | .decR4 => Sys2Proof.Machine.execDecR4 s
  | .andAM10 => Sys2Proof.Machine.execAndAM10 s
  | .xorAM10 => Sys2Proof.Machine.execXorAM10 s
  | .orAM10 => Sys2Proof.Machine.execOrAM10 s
  | .andM10A => Sys2Proof.Machine.execAndM10A s
  | .xorM10A => Sys2Proof.Machine.execXorM10A s
  | .orM10A => Sys2Proof.Machine.execOrM10A s
  | .movR0A => Sys2Proof.Machine.execMovR0A s
  | .movAR0 => Sys2Proof.Machine.execMovAR0 s
  | .movR1A => Sys2Proof.Machine.execMovR1A s
  | .movAR1 => Sys2Proof.Machine.execMovAR1 s
  | .movR2A => Sys2Proof.Machine.execMovR2A s
  | .movAR2 => Sys2Proof.Machine.execMovAR2 s
  | .movR3A => Sys2Proof.Machine.execMovR3A s
  | .movAR3 => Sys2Proof.Machine.execMovAR3 s
  | .movR4A => Sys2Proof.Machine.execMovR4A s
  | .movAR4 => Sys2Proof.Machine.execMovAR4 s
  | .clc => Sys2Proof.Machine.execClc s
  | .stc => Sys2Proof.Machine.execStc s
  | .ei => Sys2Proof.Machine.execEi s
  | .di => Sys2Proof.Machine.execDi s
  | .ret => Sys2Proof.Machine.execRet s
  | .reti => Sys2Proof.Machine.execReti s
  | .outPaA => Sys2Proof.Machine.execOutPaA s
  | .incA => Sys2Proof.Machine.execIncA s
  | .inAPs => Sys2Proof.Machine.execInAPs s
  | .inAPp => Sys2Proof.Machine.execInAPp s
  | .daa => Sys2Proof.Machine.execDaa s
  | .halt => Sys2Proof.Machine.execHalt s
  | .timerOn => Sys2Proof.Machine.execTimerOn s
  | .timerOff => Sys2Proof.Machine.execTimerOff s
  | .movATmrl => Sys2Proof.Machine.execMovATmrl s
  | .movATmrh => Sys2Proof.Machine.execMovATmrh s
  | .movTmrlA => Sys2Proof.Machine.execMovTmrlA s
  | .movTmrhA => Sys2Proof.Machine.execMovTmrhA s
  | .nop => Sys2Proof.Machine.execNop s
  | .decA => Sys2Proof.Machine.execDecA s
  | .addAX d => Sys2Proof.Machine.execAddAX d s
  | .subAX d => Sys2Proof.Machine.execSubAX d s
  | .andAX d => Sys2Proof.Machine.execAndAX d s
  | .xorAX d => Sys2Proof.Machine.execXorAX d s
  | .orAX d => Sys2Proof.Machine.execOrAX d s
  | .soundN d => Sys2Proof.Machine.execSoundN d s
  | .movR4X d => Sys2Proof.Machine.execMovR4X d s
  | .timerX d => Sys2Proof.Machine.execTimerX d s
  | .soundOne => Sys2Proof.Machine.execSoundOne s
  | .soundLoop => Sys2Proof.Machine.execSoundLoop s
  | .soundOff => Sys2Proof.Machine.execSoundOff s
  | .soundA => Sys2Proof.Machine.execSoundA s
  | .readR4a => Sys2Proof.Machine.execReadR4a s
  | .readfR4a => Sys2Proof.Machine.execReadfR4a s
  | .readMr0a => Sys2Proof.Machine.execReadMr0a s
  | .readfMr0a => Sys2Proof.Machine.execReadfMr0a s
  | .movR1R0X e f => Sys2Proof.Machine.execMovR1R0X e f s
  | .movR3R2X e f => Sys2Proof.Machine.execMovR3R2X e f s
  | .movAX d => Sys2Proof.Machine.execMovAX d s
  | .ja0 addr => Sys2Proof.Machine.execJa0 addr s
  | .ja1 addr => Sys2Proof.Machine.execJa1 addr s
  | .ja2 addr => Sys2Proof.Machine.execJa2 addr s
  | .ja3 addr => Sys2Proof.Machine.execJa3 addr s
  | .jnzR0 addr => Sys2Proof.Machine.execJnzR0 addr s
  | .jnzR1 addr => Sys2Proof.Machine.execJnzR1 addr s
  | .jzA addr => Sys2Proof.Machine.execJzA addr s
  | .jnzA addr => Sys2Proof.Machine.execJnzA addr s
  | .jc addr => Sys2Proof.Machine.execJc addr s
  | .jnc addr => Sys2Proof.Machine.execJnc addr s
  | .jtmr addr => Sys2Proof.Machine.execJtmr addr s
  | .jnzR4 addr => Sys2Proof.Machine.execJnzR4 addr s
  | .jmp addr => Sys2Proof.Machine.execJmp addr s
  | .call addr => Sys2Proof.Machine.execCall addr s

end Sys2Proof.Machine
end

