-- ==== Sys2Proof/Machine/Events.lean ====
section
/-! DEFINITION. What happens beside the CPU: a reset pulse (70_reset_and_hazards.md R270), pin changes and the wake-up edge
(60_exceptions.md R241), the end of a sound (10_state.md R37), and the timer clocks (60_exceptions.md R250-R253). -/

namespace Sys2Proof.Machine

/-- R270: the reset state of R44. What R44 leaves unspecified takes free values drawn by this reset (U1, U18; log entry
4); the ROM, the chip's constants and the outside world are not the reset's to change. -/
def resetPulse (s : State) : State where
  acc := Config.accAtReset s.draws
  r := ⟨Config.regAtReset s.draws 0, Config.regAtReset s.draws 1, Config.regAtReset s.draws 2,
        Config.regAtReset s.draws 3, Config.regAtReset s.draws 4⟩
  c := Config.carryAtReset s.draws
  pc := 0x000#12
  pa := 0xF#4
  stk := ⟨Config.stkPcAtReset s.draws, Config.stkCAtReset s.draws, false, false⟩
  subf := false
  tmr := Config.tmrAtReset s.draws
  ton := false
  tf := false
  phase := Config.phaseAtReset s.draws % 2 ^ s.chip.timerDiv.exponent
  ie := false
  exf := false
  halted := false
  snd := ⟨false, Config.sndChAtReset s.draws, false⟩
  ram := []
  rom := s.rom
  era := s.draws
  draws := s.draws + 1
  pins := s.pins
  env := s.env
  chip := s.chip

/-- A pin with the WAKE option that was high and is low (R241). -/
def wakeEdge (wake before after : Config.PinMask) : Bool :=
  (wake.ps &&& before.ps &&& ~~~after.ps) != 0#4 || (wake.pp &&& before.pp &&& ~~~after.pp) != 0#4

/-- R241: `EXF <- 1; HALTED <- 0`. A sound that was playing at HALT plays on or is lost, a free value (U13; log entry
16). -/
def wakeUp (s : State) : State :=
  (((s.setHalted false).setExf true).setSnd
    { s.snd with on := s.snd.on && Config.soundAfterWake s.draws }).setDraws (s.draws + 1)

/-- The levels of all eight pins now. -/
def pinLevels (s : State) : Config.PinMask := ⟨psLevels s, ppLevels s⟩

/-- The pins with what newly drives them; the next look at floating pins draws anew. -/
def withPins (p : Pins) (s : State) : State := (s.setPins p).setDraws (s.draws + 1)

/-- The outside puts new levels on the pins. Only in HALT mode does a falling edge of a WAKE pin do anything; while the
chip runs it sets nothing (R235, R241). -/
def pinsChanged (p : Pins) (s : State) : State :=
  if s.halted && wakeEdge s.chip.wake (pinLevels s) (pinLevels (withPins p s)) then wakeUp (withPins p s)
  else withPins p s

/-- The playing sound ends: in SONE mode the circuit clears SND.on, in SLOOP mode it plays again (R37); in HALT mode its
clock is stopped (R227). Log entry 16. -/
def soundEnded (s : State) : State :=
  if s.snd.on && !s.snd.loop && !s.halted then s.setSnd { s.snd with on := false } else s

/-- Take the next event of the outside world; one that is not there is none. -/
def takeEvent (s : State) : State :=
  match s.env with
  | [] => s
  | .idle :: rest => s.setEnv rest
  | .resetPulse :: rest => resetPulse (s.setEnv rest)
  | .pinsChange p :: rest => pinsChanged p (s.setEnv rest)
  | .soundEnds :: rest => soundEnded (s.setEnv rest)

/-- RES is low at the beginning of this step (R260 (1)). -/
def resetDue (s : State) : Bool := s.env.head? == some .resetPulse

/-- One timer clock: the count goes up by 1 modulo 256; from FFH it goes to 00H and sets TF (R250, R253). -/
def timerClock (s : State) : State := (s.setTmr (s.tmr + 1#8)).setTf (s.tf || s.tmr == 0xFF#8)

/-- `k` timer clocks. -/
def timerClocks : Nat → State → State
  | 0, s => s
  | k + 1, s => timerClocks k (timerClock s)

/-- R252, after an instruction of `cyc` machine cycles: `phase <- phase + 4*cyc`, and one timer clock for every 2^n
oscillator periods, while TON = 1 and HALTED = 0 (log entry 9). -/
def timerAfter (cyc : Nat) (s : State) : State :=
  if s.ton && !s.halted then
    timerClocks ((s.phase + 4 * cyc) / 2 ^ s.chip.timerDiv.exponent)
      (s.setPhase ((s.phase + 4 * cyc) % 2 ^ s.chip.timerDiv.exponent))
  else s

end Sys2Proof.Machine
end

