-- ==== Sys2Proof/Machine/Cycle.lean ====
section
/-! DEFINITION. The parts of one step (60_exceptions.md R260): fetching, running one instruction, what happens at an
instruction boundary; and placing an instruction where the next step fetches it. -/

namespace Sys2Proof.Machine

/-- B1 and B2: the bytes at PC and at `(PC + 1) mod 4096` of the current bank (R26, R260 (4)). Reading ROM has no effect,
so B2 is named here also where a 1-byte instruction does not fetch it. -/
def fetch (s : State) : Byte × Byte := (s.romRead s.pc, s.romRead (s.nxt 1))

/-- The fault of R231 for bytes that decode to no instruction. -/
def decodeFault (a : ProgAddr) : DecodeError → Fault
  | .undefinedOpcode b1 => .undefinedOpcode a b1
  | .reservedOperand b1 b2 => .reservedOperand a b1 b2

/-- The end of an instruction: the timer clocks that fell due during it (R252, R260 (4)). -/
def finish (i : Instr) : Result → Result
  | .next t => .next (timerAfter i.cycles t)
  | .fault f => .fault f
  | .refused r => .refused r

/-- R260 (4): fetch, decode, execute, then the timer clocks. -/
def runInstruction (s : State) : Result :=
  match decode (fetch s).1 (fetch s).2 with
  | .ok i => finish i (exec i s)
  | .error e => .fault (decodeFault s.pc e)

/-- R260 (2)-(4) at an instruction boundary: a halted chip stays as it is; an interrupt that is due is taken instead of the
next instruction; else the next instruction runs. -/
def atBoundary (s : State) : Result :=
  if s.halted then .next s
  else
    match interruptDue s with
    | some src => .next (interruptEntry src s)
    | none => runInstruction s

/-- R260, the whole step: the event of the outside world first; a reset pulse is the step. -/
def stepOnce (s : State) : Result := if resetDue s then .next (takeEvent s) else atBoundary (takeEvent s)

/-- Reset pulses that stand before anything else in the list of events are dropped. -/
def dropResets : List Event → List Event
  | .resetPulse :: rest => dropResets rest
  | l => l

/-- `s` with the two bytes of a table word in ROM at PC and `(PC + 1) mod 4096` of the current bank, and with nothing due
that would be taken instead of fetching them: HALTED clear, no reset pulse first, and IE clear where an interrupt would be
taken (log entries 2, 18). -/
def placeTableWord (s : State) (nbits w : Nat) : State :=
  let rom1 := Memory.put s.rom (s.physical s.pc).toNat (tableBytes nbits w).1
  let rom2 := Memory.put rom1 (s.physical (s.nxt 1)).toNat (tableBytes nbits w).2
  let ready := ((s.setRom rom2).setHalted false).setEnv (dropResets s.env)
  match interruptDue ready with
  | some _ => ready.setIe false
  | none => ready

end Sys2Proof.Machine
end

