-- ==== Sys2Proof/Machine/Devices.lean ====
section
/-! DEFINITION. What the outside sees of the machine, as functions of State that no step depends on: the LCD dots
(20_memory.md R67, R68), the pads of port A (10_state.md R28), the buzzer pads at rest (R44, R224), and the clocks derived
from the system clock (70_reset_and_hazards.md R287, R288). Log entry 21. -/

namespace Sys2Proof.Machine

/-- R67: the display cell of segment `seg` (0..39) and common `com` (0..7), `FFH - 2*seg - com div 4`. -/
def lcdAddr (seg : Fin 40) (com : Fin 8) : DataAddr := BitVec.ofNat 8 (0xFF - 2 * seg.val - com.val / 4)

/-- R67, R68: whether the dot is lit: bit `com mod 4` of its cell; in HALT mode the panel is blank (R36). -/
def lcdDot (s : State) (seg : Fin 40) (com : Fin 8) : Bool :=
  !s.halted && (s.cell (lcdAddr seg com)).getLsbD (com.val % 4)

/-- The level of an output pad. -/
inductive PadLevel where
  | low
  | high
  | floating
deriving DecidableEq, Repr

/-- R172: a latch bit of 1 drives a CMOS pad high and releases an open-drain pad; a 0 drives it low. -/
def padLevel (stage : Config.PadType) (bit : Bool) : PadLevel :=
  match bit, stage with
  | false, _ => .low
  | true, .cmos => .high
  | true, .nmosOpenDrain => .floating

/-- Pads PA2, PA1, PA0 (R28); bit 3 of PA drives no pad. -/
def portAPads (s : State) : PadLevel × PadLevel × PadLevel :=
  (padLevel s.chip.paType2 (s.pa.getLsbD 2), padLevel s.chip.paType1 (s.pa.getLsbD 1),
    padLevel s.chip.paType0 (s.pa.getLsbD 0))

/-- Pads BZ and BZ-bar rest at high level when no sound plays (R44, R224); what they do while one plays is not in the
spec (R5). In HALT mode with SND.on = 1 the spec says only that the sound is silent and gives no pad level (R227, U13): there
this function answers from SND.on alone and so says 'not at rest', the model's choice. DESIGN CHOICE, log entry 21. -/
def buzzerAtRest (s : State) : Bool := !s.snd.on

/-- R226: sounds 0..11 have 32 notes, sounds 12..15 have 64. -/
def soundNotes (ch : Nibble) : Nat := if ch.toNat < 12 then 32 else 64

/-- R287: one machine cycle is 4 oscillator periods, in nanoseconds. -/
def machineCycleNs (k : Config.Chip) : Nat := 4 * 1000000000 / k.fsysHz

/-- R250, R288: oscillator periods from one timer clock to the next. -/
def timerClockPeriod (k : Config.Chip) : Nat := 2 ^ k.timerDiv.exponent

/-- R253: oscillator periods from one timer overflow to the next when TMR is not loaded. -/
def overflowPeriod (k : Config.Chip) : Nat := 256 * timerClockPeriod k

/-- R288: oscillator periods of the sound clock, fSYS/2^SOUND_DIV. -/
def soundClockPeriod (k : Config.Chip) : Nat := 2 ^ k.soundDiv.exponent

/-- R8, R288: the LCD clock, 512 Hz. -/
def lcdClockHz : Nat := 512

/-- R288: the LCD common period is 8 LCD clocks, so the frame rate is 64 Hz. -/
def lcdFrameHz : Nat := lcdClockHz / 8

end Sys2Proof.Machine
end

