-- ==== Sys2Proof/Safety.lean ====
section
/-! DEFINITION. What the statements are said in terms of: the invariant of the machine, safe runs, and which instructions the
spec lets write a piece of state (10_state.md R24, R45). -/

namespace Sys2Proof.Machine

/-- Both memories are in canonical form (20_memory.md R61, R66). -/
abbrev State.MemoriesWf (s : State) : Prop :=
  Memory.wf ramExists s.ram = true ∧ Memory.wf romExists s.rom = true

/-- The divider phase is below 2^TIMER_DIV (60_exceptions.md R251). -/
abbrev State.PhaseBound (s : State) : Prop := s.phase < 2 ^ s.chip.timerDiv.exponent

/-- Inside a subroutine or a service routine the stack register has been written; and whoever wrote STK.c wrote STK.pc
(10_state.md R29, R30). -/
abbrev State.StackOk (s : State) : Prop :=
  (s.subf = true → s.stk.written = true) ∧ (s.stk.cWritten = true → s.stk.written = true)

/-- What every step keeps. -/
abbrev State.Inv (s : State) : Prop := s.MemoriesWf ∧ s.PhaseBound ∧ s.StackOk

/-- `k` steps from `s` meet no fault and no refusal. -/
def State.SafeFor (s : State) (k : Nat) : Prop := ∃ t, core.run k s = .next t

/-- The instructions whose meaning writes C (R24). -/
def writesCarry : Instr → Bool
  | .addAM10 | .adcAM10 | .subAM10 | .sbcAM10 | .addAX _ | .subAX _ | .daa => true
  | .rlA | .rlcA | .rrA | .rrcA | .clc | .stc | .reti => true
  | _ => false

/-- The instructions that write a data-memory cell, all at a register pair's address (R45, R65): through R1,R0. -/
def storesAt10 : Instr → Bool
  | .movM10A | .incM10 | .decM10 | .andM10A | .orM10A | .xorM10A | .readMr0a | .readfMr0a => true
  | _ => false

/-- Through R3,R2. -/
def storesAt32 : Instr → Bool
  | .movM32A | .incM32 | .decM32 => true
  | _ => false

/-- The instructions that access the cell at R1:R0 (R65). -/
def usesCell10 (i : Instr) : Bool :=
  storesAt10 i || i == .movAM10 || i == .addAM10 || i == .adcAM10 || i == .subAM10 || i == .sbcAM10 ||
  i == .andAM10 || i == .orAM10 || i == .xorAM10 || i == .readR4a || i == .readfR4a

/-- The instructions that access the cell at R3:R2 (R65). -/
def usesCell32 (i : Instr) : Bool := storesAt32 i || i == .movAM32

/-- The fault of R231 that instruction `i` raises in state `s`, if any. -/
def faultOf (i : Instr) (s : State) : Option Fault :=
  if usesCell10 i && !ramExists (dp10 s).toNat then some (.undefinedRam (dp10 s))
  else if usesCell32 i && !ramExists (dp32 s).toNat then some (.undefinedRam (dp32 s))
  else
    match i with
    | .call _ => if s.subf then some (.nestedCall s.pc) else none
    | .ret => if s.stk.written then none else some (.stackUnwritten s.pc)
    | .reti => if s.stk.written then none else some (.stackUnwritten s.pc)
    | _ => none

end Sys2Proof.Machine
end

