-- ==== Sys2Proof/Certificates/Slice0/Obligations.lean ====
section
/-! DEFINITION. The statements for the provers, one definition each. A result is stated as the whole next state: what it does
not name is unchanged; and memory is said again through the reads of one RAM cell and one ROM byte. -/

namespace Sys2Proof.Machine

/-- Every RAM cell and every ROM byte reads as before. -/
def SameMemory (s t : State) : Prop := (∀ a, t.cell a = s.cell a) ∧ ∀ p, t.romByte p = s.romByte p

/-- Cell `a` reads `v`; every other RAM cell and every ROM byte reads as before. -/
def StoredOnly (s t : State) (a : DataAddr) (v : Nibble) : Prop :=
  t.cell a = v ∧ (∀ b, b ≠ a → t.cell b = s.cell b) ∧ ∀ p, t.romByte p = s.romByte p

/-- The data addresses of R66 that can be used. -/
def Usable (a : DataAddr) : Prop := a.toNat < 0xA0 ∨ 0xB0 ≤ a.toNat

/-- The instruction has these bytes, which read back as it whatever follows, and takes these machine cycles. -/
def Encodes (i : Instr) (bytes : List Byte) (cycles : Nat) : Prop :=
  encode i = bytes ∧ i.cycles = cycles ∧ ∀ x : Byte, decodeBytes (bytes ++ [x]) = .ok i

/-- Instructions executed one after another. -/
def execSeq : List Instr → State → Result
  | [], s => .next s
  | i :: is, s =>
    match exec i s with
    | .next t => execSeq is t
    | .fault f => .fault f
    | .refused r => .refused r

/-- The target of a taken conditional jump as arithmetic: the 2048-byte half of `nxt`, then the 11-bit address. -/
def halfTarget (nxt : ProgAddr) (addr : BitVec 11) : ProgAddr :=
  BitVec.ofNat 12 (2048 * (nxt.toNat / 2048) + addr.toNat)

/-- The ROM byte at bank `PA3`, page `page`, offset `16*ACC + low` (R210). -/
def tableByte (s : State) (page : Nat) (low : Nibble) : Byte :=
  s.romByte (BitVec.ofNat 13 (4096 * (s.pa.getLsbD 3).toNat + 256 * page + 16 * s.acc.toNat + low.toNat))

/-- The answer of a step without the sound state. -/
def forgetSound : Result → Result
  | .next t => .next (t.setSnd ⟨false, 0#4, false⟩)
  | .fault f => .fault f
  | .refused r => .refused r

/-- The bytes that the step's boundary fetches decode to `i`. -/
def Fetches (s : State) (i : Instr) : Prop := decode (fetch (takeEvent s)).1 (fetch (takeEvent s)).2 = .ok i

/-- The step takes the interrupt `src` at its boundary. -/
def Takes (s : State) (src : IntSource) : Prop :=
  resetDue s = false ∧ (takeEvent s).halted = false ∧ interruptDue (takeEvent s) = some src

/-- The step runs the instruction `i`. -/
def Runs (s : State) (i : Instr) : Prop :=
  resetDue s = false ∧ (takeEvent s).halted = false ∧ interruptDue (takeEvent s) = none ∧ Fetches s i

/-- The step's event is a falling edge of a WAKE pin in HALT mode (R241). -/
def Wakes (s : State) : Prop :=
  s.halted = true ∧ ∃ p rest, s.env = .pinsChange p :: rest ∧
    wakeEdge s.chip.wake (pinLevels s) (pinLevels (withPins p s)) = true

end Sys2Proof.Machine

open Sys2Proof Sys2Proof.Machine

/-- O1. After reset PC is 000H and PA is 1111, so the next fetch is at physical 1000H; TON, TF, IE, SND.on and
SND.loop are 0. SUBF, EXF and HALTED are 0 by the spec's own decision D19 (log entry 25). The registers the list
does not name are the model's choice (log entry 3) and not stated.
Rests on 10_state.md section 6 (reset list); 92_eei_decisions.md D19. -/
def Obligations.ResetGivesTheListedValues : Prop :=
  let s := State.reset
  s.pc = 0x000#12 ∧ s.pa = 0xF#4 ∧ s.physical s.pc = 0x1000#13 ∧ s.ton = false ∧ s.tf = false ∧ s.ie = false ∧
    s.snd.on = false ∧ s.snd.loop = false ∧ s.subf = false ∧ s.exf = false ∧ s.halted = false

/-- O2. Where a reset pulse is the next event, the step succeeds and is only that: the listed values are established
whatever the state was (HALT ends, pending TF and EXF and IE are cleared), and ROM, the pins' drive, the chip
constants and the later events stay. No RAM cell is listed any more and the stack register counts as unwritten:
RAM and the unlisted registers are left to free values (log entry 4); that SUBF, EXF and HALTED are cleared is
the spec's decision D19 (log entry 25).
Rests on 70_reset_and_hazards.md section 1; 60_exceptions.md section 7, step (1); 92_eei_decisions.md D19. -/
def Obligations.ResetPulseGivesTheListedValues : Prop :=
  ∀ (s : State) (rest : List Event), s.env = .resetPulse :: rest →
  ∃ t, step s = .next t ∧ t.pc = 0x000#12 ∧ t.pa = 0xF#4 ∧ t.ton = false ∧ t.tf = false ∧ t.ie = false ∧
    t.snd.on = false ∧ t.snd.loop = false ∧ t.subf = false ∧ t.exf = false ∧ t.halted = false ∧
    t.ram = [] ∧ t.stk.written = false ∧ t.stk.cWritten = false ∧ t.PhaseBound ∧
    (∀ p, t.romByte p = s.romByte p) ∧ t.chip = s.chip ∧ t.pins = s.pins ∧ t.env = rest

/-- O3. State.reset has both memories in canonical form, the divider phase below 2^TIMER_DIV, and a stack register
that is not claimed to be in use.
Rests on 20_memory.md section 3; 60_exceptions.md section 5; 10_state.md section 3. -/
def Obligations.ResetSatisfiesTheInvariant : Prop :=
  State.reset.Inv

/-- O4. For every state s with Inv s, if step answers next t then Inv t: both memories stay in canonical form
(strictly rising addresses, all of which exist; never A0H-AFH), the divider phase stays below 2^TIMER_DIV, SUBF
= 1 only with a written stack register, and STK.c never written without STK.pc.
Rests on 20_memory.md section 3; 60_exceptions.md section 5; 10_state.md section 3. -/
def Obligations.EveryStepKeepsTheInvariant : Prop :=
  ∀ s t : State, s.Inv → step s = .next t → t.Inv

/-- O5. If no reset is due, the chip is not halted and no interrupt is due after the event of the outside, and the
bytes at PC decode to i, then the step is exec of i on that state, followed by the timer clocks of i's cycles
where exec answers a next state. If the bytes decode to nothing, the step is the fault the spec names. With no
event due the state exec sees is s itself, and outside HALT an event has changed only the record of the outside
(env, pins, draws) and SND.on. That the timer clocks are applied after exec, so that TIMER ON's own cycles
count, is the timing-exact model of R252, the model's choice (D24, log entry 9); the two decode faults are the
spec's decisions D15 to D17 (log entry 15).
Rests on 60_exceptions.md section 7; 60_exceptions.md section 1; 92_eei_decisions.md D15, D16, D17, D24. -/
def Obligations.StepRunsTheDecodedInstruction : Prop :=
  ∀ s : State, resetDue s = false → (takeEvent s).halted = false → interruptDue (takeEvent s) = none →
  (∀ i, Fetches s i →
    step s = match exec i (takeEvent s) with
      | .next t => .next (timerAfter i.cycles t)
      | .fault f => .fault f
      | .refused r => .refused r) ∧
  (∀ b1, decode (fetch (takeEvent s)).1 (fetch (takeEvent s)).2 = .error (.undefinedOpcode b1) →
    step s = .fault (.undefinedOpcode (takeEvent s).pc b1)) ∧
  (∀ b1 b2, decode (fetch (takeEvent s)).1 (fetch (takeEvent s)).2 = .error (.reservedOperand b1 b2) →
    step s = .fault (.reservedOperand (takeEvent s).pc b1 b2)) ∧
  (s.env = [] → takeEvent s = s) ∧
  (s.halted = false →
    takeEvent s = { s with env := s.env.tail, pins := (takeEvent s).pins, draws := (takeEvent s).draws,
                           snd.on := (takeEvent s).snd.on })

/-- O6. For every state with no event due and every table word that decodes to an instruction i, the step from
s.withFetchWord is exec of i on that state followed by its timer clocks. How a word is placed is the model's own
(log entries 2 and 18).
Rests on 60_exceptions.md section 7, step (4); 20_memory.md section 2. -/
def Obligations.PlacedWordRunsNext : Prop :=
  ∀ (s : State) (nbits w : Nat) (i : Instr), s.env = [] → decodeTableWord nbits w = some i →
  step (s.withFetchWord nbits w) = finish i (exec i (s.withFetchWord nbits w))

/-- O7. For all 95 instructions and all operand values, the decoder reads from encode i, followed by any byte,
exactly i.
Rests on 30_encoding.md sections 1 to 3; opcode_table.json. -/
def Obligations.EncodeThenDecodeIsTheInstruction : Prop :=
  ∀ (i : Instr) (x : Byte), decodeBytes (encode i ++ [x]) = .ok i

/-- O8. If decode b1 b2 is i, then encode i is exactly b1, or b1 and b2 where b1 begins a 2-byte instruction: no bit
of the bytes is ignored and no two byte sequences share an instruction. That the bits printed as zero must be
zero, instead of being ignored, is the spec's own decision D16 (R102; log entry 15).
Rests on 30_encoding.md sections 1 to 4; 92_eei_decisions.md D16. -/
def Obligations.DecodedBytesAreTheEncoding : Prop :=
  ∀ (b1 b2 : Byte) (i : Instr), decode b1 b2 = .ok i → encode i = if isTwoByte b1 then [b1, b2] else [b1]

/-- O9. Two bytes decode to an instruction if and only if the first is assigned (not 32H, 35H) and the second is
legal (printed zeros zero in formats F2I and F2P, 3EH after 37H); an unassigned first byte is named as an
undefined opcode, an illegal second byte as a reserved operand. These faults are the spec's decisions D15 to D17
(log entry 15).
Rests on 30_encoding.md section 4; 92_eei_decisions.md D15, D16, D17. -/
def Obligations.DecoderRefusesExactlyIllFormedBytes : Prop :=
  ∀ b1 b2 : Byte,
  (bytesWellFormed b1 b2 = true ↔ ∃ i, decode b1 b2 = .ok i) ∧
  (firstByteAssigned b1 = false → decode b1 b2 = .error (.undefinedOpcode b1)) ∧
  (firstByteAssigned b1 = true → secondByteLegal b1 b2 = false → decode b1 b2 = .error (.reservedOperand b1 b2))

/-- O10. Whatever the second byte, an instruction decoded from b1 is 2 bytes long when b1 is 37H, 40H-47H, 50H-6FH
or 80H-FFH, and 1 byte long otherwise.
Formalises R90. -/
def Obligations.FirstByteDecidesTheLength : Prop :=
  ∀ (b1 b2 : Byte) (i : Instr), decode b1 b2 = .ok i →
  i.length = if b1.toNat = 0x37 ∨ (0x40 ≤ b1.toNat ∧ b1.toNat ≤ 0x47) ∨ (0x50 ≤ b1.toNat ∧ b1.toNat ≤ 0x6F) ∨
      0x80 ≤ b1.toNat then 2 else 1

/-- O11. Every 1-byte instruction takes 1 machine cycle except READ R4A, READ MR0A, READF R4A and READF MR0A, which
are 1 byte and 2 cycles; every 2-byte instruction takes 2 cycles.
Formalises R286. -/
def Obligations.CyclesOfEveryInstruction : Prop :=
  ∀ i : Instr,
  (i = .readR4a ∨ i = .readMr0a ∨ i = .readfR4a ∨ i = .readfMr0a → i.length = 1 ∧ i.cycles = 2) ∧
  (¬(i = .readR4a ∨ i = .readMr0a ∨ i = .readfR4a ∨ i = .readfMr0a) → i.cycles = i.length ∧ (i.length = 1 ∨ i.length = 2))

/-- O12. Fixed bytes of the spec's encodings: 09H, 40H 09H, 1EH, 19H, 53H 03H, 7CH, 02H, 30H, 9FH 50H, DAH F0H, F4H
00H, 2FH, 47H F0H, 3DH, 4EH, 45H 0CH, 37H 3EH decode to ADD A,[R1R0]; ADD A,9H; XOR [R1R0],A; DEC R4; MOV
R1R0,33H; MOV A,0CH; RRC A; OUT PA,A; JA3 750H; JNZ R4,2F0H; CALL 400H; RETI; TIMER 0F0H; MOV TMRH,A; READ MR0A;
SOUND 12; HALT. The order of address bits and of the two bytes is the spec's decision D3, D22 and C1 (log entry
19).
Rests on 30_encoding.md section 3; 95_test_vectors.md Part 2. -/
def Obligations.WrittenOutWordsDecode : Prop :=
  decode 0x09#8 0x00#8 = .ok .addAM10 ∧
  decode 0x40#8 0x09#8 = .ok (.addAX 9#4) ∧
  decode 0x1E#8 0x00#8 = .ok .xorM10A ∧
  decode 0x19#8 0x1A#8 = .ok .decR4 ∧
  decode 0x53#8 0x03#8 = .ok (.movR1R0X 3#4 3#4) ∧
  decode 0x7C#8 0x00#8 = .ok (.movAX 0xC#4) ∧
  decode 0x02#8 0x00#8 = .ok .rrcA ∧
  decode 0x30#8 0x00#8 = .ok .outPaA ∧
  decode 0x9F#8 0x50#8 = .ok (.ja3 0x750#11) ∧
  decode 0xDA#8 0xF0#8 = .ok (.jnzR4 0x2F0#11) ∧
  decode 0xF4#8 0x00#8 = .ok (.call 0x400#12) ∧
  decode 0x2F#8 0x00#8 = .ok .reti ∧
  decode 0x47#8 0xF0#8 = .ok (.timerX 0xF0#8) ∧
  decode 0x3D#8 0x00#8 = .ok .movTmrhA ∧
  decode 0x4E#8 0x2E#8 = .ok .readMr0a ∧
  decode 0x45#8 0x0C#8 = .ok (.soundN 0xC#4) ∧
  decode 0x37#8 0x3E#8 = .ok .halt

/-- O13. At a usable address a write goes on with the written state, in which that cell reads the value written and
every other cell and every ROM byte reads as before; a read goes on with the cell's value. At A0H-AFH both stop
with the named fault (the spec's decision D18, log entry 14).
Rests on 20_memory.md section 3; 92_eei_decisions.md D18. -/
def Obligations.CellReadsTheLastValueWritten : Prop :=
  ∀ (s : State) (a : DataAddr) (v : Nibble),
  (Usable a → (∀ k, memRead s a k = k (s.cell a)) ∧ ∃ t, StoredOnly s t a v ∧ ∀ k, memWrite s a v k = k t) ∧
  (¬Usable a → (∀ k, memRead s a k = .fault (.undefinedRam a)) ∧ ∀ k, memWrite s a v k = .fault (.undefinedRam a))

/-- O14. ADD A,[R1R0], ADC A,[R1R0] (at a usable address) and ADD A,XH complete: ACC becomes the sum modulo 16, the
carry-in counting for ADC only, C says whether the sum is 16 or more, PC goes to the next instruction and
nothing else changes. That C is the carry out of bit 3 is the spec's decision D1 (log entry 17).
Rests on 40_arithmetic.md, ADD A,[R1R0]; ADC A,[R1R0]; ADD A,XH; 92_eei_decisions.md D1. -/
def Obligations.AdditionResultAndCarry : Prop :=
  ∀ s : State,
  (Usable (dp10 s) →
  (∃ t, exec .addAM10 s = .next t ∧ SameMemory s t ∧ t = { s with acc := t.acc, c := t.c, pc := s.pc + 1#12 } ∧
    t.acc.toNat = (s.acc.toNat + (s.cell (dp10 s)).toNat) % 16 ∧ t.c = decide (16 ≤ s.acc.toNat + (s.cell (dp10 s)).toNat)) ∧
  (∃ t, exec .adcAM10 s = .next t ∧ SameMemory s t ∧ t = { s with acc := t.acc, c := t.c, pc := s.pc + 1#12 } ∧
    t.acc.toNat = (s.acc.toNat + (s.cell (dp10 s)).toNat + s.c.toNat) % 16 ∧ t.c = decide (16 ≤ s.acc.toNat + (s.cell (dp10 s)).toNat + s.c.toNat))) ∧
  ∀ d : Nibble,
  (∃ t, exec (.addAX d) s = .next t ∧ SameMemory s t ∧ t = { s with acc := t.acc, c := t.c, pc := s.pc + 2#12 } ∧
    t.acc.toNat = (s.acc.toNat + d.toNat) % 16 ∧ t.c = decide (16 ≤ s.acc.toNat + d.toNat))

/-- O15. SUB A,[R1R0], SBC A,[R1R0] (at a usable address) and SUB A,XH complete: ACC becomes ACC minus the operand
modulo 16 (SBC subtracts one more when C is 0), and C is 1 exactly when nothing was borrowed; PC goes to the
next instruction and nothing else changes. The polarity of C is the spec's decision D1 (log entry 17).
Rests on 40_arithmetic.md, SUB A,[R1R0]; SBC A,[R1R0]; SUB A,XH; 92_eei_decisions.md D1. -/
def Obligations.SubtractionResultAndBorrow : Prop :=
  ∀ s : State,
  (Usable (dp10 s) →
  (∃ t, exec .subAM10 s = .next t ∧ SameMemory s t ∧ t = { s with acc := t.acc, c := t.c, pc := s.pc + 1#12 } ∧
    t.acc.toNat = (s.acc.toNat + 16 - (s.cell (dp10 s)).toNat) % 16 ∧ t.c = decide ((s.cell (dp10 s)).toNat ≤ s.acc.toNat)) ∧
  (∃ t, exec .sbcAM10 s = .next t ∧ SameMemory s t ∧ t = { s with acc := t.acc, c := t.c, pc := s.pc + 1#12 } ∧
    t.acc.toNat = (s.acc.toNat + 16 - ((s.cell (dp10 s)).toNat + (1 - s.c.toNat))) % 16 ∧ t.c = decide ((s.cell (dp10 s)).toNat + (1 - s.c.toNat) ≤ s.acc.toNat))) ∧
  ∀ d : Nibble,
  (∃ t, exec (.subAX d) s = .next t ∧ SameMemory s t ∧ t = { s with acc := t.acc, c := t.c, pc := s.pc + 2#12 } ∧
    t.acc.toNat = (s.acc.toNat + 16 - d.toNat) % 16 ∧ t.c = decide (d.toNat ≤ s.acc.toNat))

/-- O16. DAA completes in every state: if ACC > 9 or C = 1 then ACC becomes ACC + 6 modulo 16 and C becomes 1;
otherwise only PC changes. The wrap of ACC + 6 is the spec's reading of a 4-bit register.
Rests on 40_arithmetic.md, DAA. -/
def Obligations.DecimalAdjustResult : Prop :=
  ∀ s : State,
  (9 < s.acc.toNat ∨ s.c = true →
    ∃ t, exec .daa s = .next t ∧ t.acc.toNat = (s.acc.toNat + 6) % 16 ∧
      t = { s with acc := t.acc, c := true, pc := s.pc + 1#12 } ∧ SameMemory s t) ∧
  (¬(9 < s.acc.toNat ∨ s.c = true) → (let t : State := { s with pc := s.pc + 1#12 }; exec .daa s = .next t ∧ SameMemory s t))

/-- O17. For decimal digits in ACC and in the addressed cell and any carry-in, ADC A,[R1R0] followed by DAA
completes with 10*C + ACC equal to the sum of the digits and the carry-in, and ACC again a decimal digit.
Rests on 40_arithmetic.md, DAA and ADC A,[R1R0]; 95_test_vectors.md P1. -/
def Obligations.DecimalAdditionOfDigits : Prop :=
  ∀ s : State, Usable (dp10 s) → s.acc.toNat ≤ 9 → (s.cell (dp10 s)).toNat ≤ 9 →
  ∃ t, execSeq [.adcAM10, .daa] s = .next t ∧ t.acc.toNat ≤ 9 ∧
    10 * t.c.toNat + t.acc.toNat = s.acc.toNat + (s.cell (dp10 s)).toNat + s.c.toNat

/-- O18. AND, OR and XOR A,[R1R0] at a usable address, and AND, OR and XOR A,XH always, complete with ACC the
bitwise result, PC at the next instruction and nothing else changed, C included.
Rests on 41_logic.md, the forms with destination A; 20_memory.md section 3. -/
def Obligations.LogicOnTheAccumulator : Prop :=
  ∀ s : State,
  (Usable (dp10 s) →
  (let t : State := { s with acc := s.acc &&& s.cell (dp10 s), pc := s.pc + 1#12 }; exec .andAM10 s = .next t ∧ SameMemory s t) ∧
  (let t : State := { s with acc := s.acc ||| s.cell (dp10 s), pc := s.pc + 1#12 }; exec .orAM10 s = .next t ∧ SameMemory s t) ∧
  (let t : State := { s with acc := s.acc ^^^ s.cell (dp10 s), pc := s.pc + 1#12 }; exec .xorAM10 s = .next t ∧ SameMemory s t)) ∧
  ∀ d : Nibble,
  (let t : State := { s with acc := s.acc &&& d, pc := s.pc + 2#12 }; exec (.andAX d) s = .next t ∧ SameMemory s t) ∧
  (let t : State := { s with acc := s.acc ||| d, pc := s.pc + 2#12 }; exec (.orAX d) s = .next t ∧ SameMemory s t) ∧
  (let t : State := { s with acc := s.acc ^^^ d, pc := s.pc + 2#12 }; exec (.xorAX d) s = .next t ∧ SameMemory s t)

/-- O19. AND, OR and XOR [R1R0],A complete at a usable address: the cell at R1:R0 becomes the bitwise result of its
old value and ACC, every other cell and ROM byte reads as before, PC goes to the next instruction and nothing
else changes.
Rests on 41_logic.md, the forms with destination [R1R0]; 20_memory.md section 3. -/
def Obligations.LogicOnMemory : Prop :=
  ∀ s : State, Usable (dp10 s) →
  (∃ t, exec .andM10A s = .next t ∧ StoredOnly s t (dp10 s) (s.cell (dp10 s) &&& s.acc) ∧ t = { s with ram := t.ram, pc := s.pc + 1#12 }) ∧
  (∃ t, exec .orM10A s = .next t ∧ StoredOnly s t (dp10 s) (s.cell (dp10 s) ||| s.acc) ∧ t = { s with ram := t.ram, pc := s.pc + 1#12 }) ∧
  (∃ t, exec .xorM10A s = .next t ∧ StoredOnly s t (dp10 s) (s.cell (dp10 s) ^^^ s.acc) ∧ t = { s with ram := t.ram, pc := s.pc + 1#12 })

/-- O20. INC A, DEC A and INC Rn, DEC Rn for n = 0..4 have their one byte and one cycle and complete in every state:
the operand goes up or down by 1 modulo 16, PC to the next instruction, and nothing else changes, C included.
Formalises R141, R142, R145, R146. -/
def Obligations.IncrementAndDecrementRegisters : Prop :=
  ∀ s : State,
  Encodes .incA [0x31#8] 1 ∧ (let t : State := { s with acc := s.acc + 1#4, pc := s.pc + 1#12 }; exec .incA s = .next t ∧ SameMemory s t) ∧
  Encodes .incR0 [0x10#8] 1 ∧ (let t : State := { s with r.r0 := s.r.r0 + 1#4, pc := s.pc + 1#12 }; exec .incR0 s = .next t ∧ SameMemory s t) ∧
  Encodes .incR1 [0x12#8] 1 ∧ (let t : State := { s with r.r1 := s.r.r1 + 1#4, pc := s.pc + 1#12 }; exec .incR1 s = .next t ∧ SameMemory s t) ∧
  Encodes .incR2 [0x14#8] 1 ∧ (let t : State := { s with r.r2 := s.r.r2 + 1#4, pc := s.pc + 1#12 }; exec .incR2 s = .next t ∧ SameMemory s t) ∧
  Encodes .incR3 [0x16#8] 1 ∧ (let t : State := { s with r.r3 := s.r.r3 + 1#4, pc := s.pc + 1#12 }; exec .incR3 s = .next t ∧ SameMemory s t) ∧
  Encodes .incR4 [0x18#8] 1 ∧ (let t : State := { s with r.r4 := s.r.r4 + 1#4, pc := s.pc + 1#12 }; exec .incR4 s = .next t ∧ SameMemory s t) ∧
  Encodes .decA [0x3F#8] 1 ∧ (let t : State := { s with acc := s.acc - 1#4, pc := s.pc + 1#12 }; exec .decA s = .next t ∧ SameMemory s t) ∧
  Encodes .decR0 [0x11#8] 1 ∧ (let t : State := { s with r.r0 := s.r.r0 - 1#4, pc := s.pc + 1#12 }; exec .decR0 s = .next t ∧ SameMemory s t) ∧
  Encodes .decR1 [0x13#8] 1 ∧ (let t : State := { s with r.r1 := s.r.r1 - 1#4, pc := s.pc + 1#12 }; exec .decR1 s = .next t ∧ SameMemory s t) ∧
  Encodes .decR2 [0x15#8] 1 ∧ (let t : State := { s with r.r2 := s.r.r2 - 1#4, pc := s.pc + 1#12 }; exec .decR2 s = .next t ∧ SameMemory s t) ∧
  Encodes .decR3 [0x17#8] 1 ∧ (let t : State := { s with r.r3 := s.r.r3 - 1#4, pc := s.pc + 1#12 }; exec .decR3 s = .next t ∧ SameMemory s t) ∧
  Encodes .decR4 [0x19#8] 1 ∧ (let t : State := { s with r.r4 := s.r.r4 - 1#4, pc := s.pc + 1#12 }; exec .decR4 s = .next t ∧ SameMemory s t)

/-- O21. INC [R1R0], DEC [R1R0], INC [R3R2] and DEC [R3R2] complete at a usable address: the addressed cell goes up
or down by 1 modulo 16, every other cell and ROM byte reads as before, PC goes to the next instruction and
nothing else changes.
Rests on 42_incdec.md, the forms on [R1R0] and [R3R2]; 20_memory.md section 3. -/
def Obligations.IncrementAndDecrementMemory : Prop :=
  ∀ s : State,
  (Usable (dp10 s) →
  (∃ t, exec .incM10 s = .next t ∧ StoredOnly s t (dp10 s) (s.cell (dp10 s) + 1#4) ∧ t = { s with ram := t.ram, pc := s.pc + 1#12 }) ∧
  (∃ t, exec .decM10 s = .next t ∧ StoredOnly s t (dp10 s) (s.cell (dp10 s) - 1#4) ∧ t = { s with ram := t.ram, pc := s.pc + 1#12 })) ∧
  (Usable (dp32 s) →
  (∃ t, exec .incM32 s = .next t ∧ StoredOnly s t (dp32 s) (s.cell (dp32 s) + 1#4) ∧ t = { s with ram := t.ram, pc := s.pc + 1#12 }) ∧
  (∃ t, exec .decM32 s = .next t ∧ StoredOnly s t (dp32 s) (s.cell (dp32 s) - 1#4) ∧ t = { s with ram := t.ram, pc := s.pc + 1#12 }))

/-- O22. For n = 0..4, MOV A,Rn copies R[n] to ACC and MOV Rn,A copies ACC to R[n]; each has its one byte and one
cycle, completes in every state, and changes nothing else but PC.
Formalises R151, R152. -/
def Obligations.MovesBetweenAccAndRegisters : Prop :=
  ∀ s : State,
  Encodes .movAR0 [0x21#8] 1 ∧ (let t : State := { s with acc := s.r.r0, pc := s.pc + 1#12 }; exec .movAR0 s = .next t ∧ SameMemory s t) ∧
  Encodes .movR0A [0x20#8] 1 ∧ (let t : State := { s with r.r0 := s.acc, pc := s.pc + 1#12 }; exec .movR0A s = .next t ∧ SameMemory s t) ∧
  Encodes .movAR1 [0x23#8] 1 ∧ (let t : State := { s with acc := s.r.r1, pc := s.pc + 1#12 }; exec .movAR1 s = .next t ∧ SameMemory s t) ∧
  Encodes .movR1A [0x22#8] 1 ∧ (let t : State := { s with r.r1 := s.acc, pc := s.pc + 1#12 }; exec .movR1A s = .next t ∧ SameMemory s t) ∧
  Encodes .movAR2 [0x25#8] 1 ∧ (let t : State := { s with acc := s.r.r2, pc := s.pc + 1#12 }; exec .movAR2 s = .next t ∧ SameMemory s t) ∧
  Encodes .movR2A [0x24#8] 1 ∧ (let t : State := { s with r.r2 := s.acc, pc := s.pc + 1#12 }; exec .movR2A s = .next t ∧ SameMemory s t) ∧
  Encodes .movAR3 [0x27#8] 1 ∧ (let t : State := { s with acc := s.r.r3, pc := s.pc + 1#12 }; exec .movAR3 s = .next t ∧ SameMemory s t) ∧
  Encodes .movR3A [0x26#8] 1 ∧ (let t : State := { s with r.r3 := s.acc, pc := s.pc + 1#12 }; exec .movR3A s = .next t ∧ SameMemory s t) ∧
  Encodes .movAR4 [0x29#8] 1 ∧ (let t : State := { s with acc := s.r.r4, pc := s.pc + 1#12 }; exec .movAR4 s = .next t ∧ SameMemory s t) ∧
  Encodes .movR4A [0x28#8] 1 ∧ (let t : State := { s with r.r4 := s.acc, pc := s.pc + 1#12 }; exec .movR4A s = .next t ∧ SameMemory s t)

/-- O23. For all 16 values d, MOV A,dH is the byte 7dH, one cycle, and completes in every state with ACC = d, PC at
the next instruction and nothing else changed. Every other instruction that carries immediate data (formats F2I,
F2P and F2T: ADD, SUB, AND, OR, XOR A,XH; MOV R4,XH; SOUND n; MOV R1R0,XXH; MOV R3R2,XXH; TIMER XXH) is two
bytes long.
Formalises R157. -/
def Obligations.ImmediateMoveToAcc : Prop :=
  ∀ (s : State) (d : Nibble),
  Encodes (.movAX d) [0x7#4 ++ d] 1 ∧ (let t : State := { s with acc := d, pc := s.pc + 1#12 }; exec (.movAX d) s = .next t ∧ SameMemory s t) ∧
  (∀ e : Nibble, ∀ i ∈ [Instr.addAX e, .subAX e, .andAX e, .orAX e, .xorAX e, .movR4X e, .soundN e], i.length = 2) ∧
  (∀ (e f : Nibble) (b : Byte), ∀ i ∈ [Instr.movR1R0X e f, .movR3R2X e f, .timerX b], i.length = 2)

/-- O24. MOV R1R0,XXH and MOV R3R2,XXH complete in every state: with IMM8_ORDER first_high the high register takes
the first byte's nibble and the low register the second's, with first_low the reverse; MOV R4,XH loads R4. Only
those registers and PC change. The order is the open parameter (log entry 6).
Rests on 43_datamove.md, MOV R1R0,XXH; MOV R3R2,XXH; MOV R4,XH; 92_eei_decisions.md D2. -/
def Obligations.ImmediateLoadsOfPointersAndR4 : Prop :=
  ∀ (s : State) (e f : Nibble),
  (s.chip.imm8Order = .firstHigh →
  (let t : State := { s with r.r1 := e, r.r0 := f, pc := s.pc + 2#12 }; exec (.movR1R0X e f) s = .next t ∧ SameMemory s t) ∧
  (let t : State := { s with r.r3 := e, r.r2 := f, pc := s.pc + 2#12 }; exec (.movR3R2X e f) s = .next t ∧ SameMemory s t)) ∧
  (s.chip.imm8Order = .firstLow →
  (let t : State := { s with r.r1 := f, r.r0 := e, pc := s.pc + 2#12 }; exec (.movR1R0X e f) s = .next t ∧ SameMemory s t) ∧
  (let t : State := { s with r.r3 := f, r.r2 := e, pc := s.pc + 2#12 }; exec (.movR3R2X e f) s = .next t ∧ SameMemory s t)) ∧
  (let t : State := { s with r.r4 := e, pc := s.pc + 2#12 }; exec (.movR4X e) s = .next t ∧ SameMemory s t)

/-- O25. MOV A,[R1R0] and MOV A,[R3R2] load the addressed cell into ACC; MOV [R1R0],A and MOV [R3R2],A store ACC
into it, every other cell and every ROM byte reading as before. All four complete at a usable address. That R1
and R3 are the high nibbles is the spec's decision D20 (log entry 26).
Rests on 43_datamove.md, the forms on [R1R0] and [R3R2]; 20_memory.md section 3; 92_eei_decisions.md D20. -/
def Obligations.LoadsAndStoresThroughPointers : Prop :=
  ∀ s : State,
  (Usable (dp10 s) →
  (let t : State := { s with acc := s.cell (dp10 s), pc := s.pc + 1#12 }; exec .movAM10 s = .next t ∧ SameMemory s t) ∧
  (∃ t, exec .movM10A s = .next t ∧ StoredOnly s t (dp10 s) (s.acc) ∧ t = { s with ram := t.ram, pc := s.pc + 1#12 })) ∧
  (Usable (dp32 s) →
  (let t : State := { s with acc := s.cell (dp32 s), pc := s.pc + 1#12 }; exec .movAM32 s = .next t ∧ SameMemory s t) ∧
  (∃ t, exec .movM32A s = .next t ∧ StoredOnly s t (dp32 s) (s.acc) ∧ t = { s with ram := t.ram, pc := s.pc + 1#12 })) ∧
  (dp10 s).toNat = 16 * s.r.r1.toNat + s.r.r0.toNat ∧ (dp32 s).toNat = 16 * s.r.r3.toNat + s.r.r2.toNat

/-- O26. Each of the four rotates has its byte and one cycle and completes in every state: every bit of the new ACC
is the bit the definition names (bit n+1 from bit n or bit n from bit n+1, the free end from the wrapping bit or
from C), C is the bit that falls out, PC goes to the next instruction and nothing else changes.
Formalises R165, R166, R167, R168. -/
def Obligations.RotatesMoveEveryBit : Prop :=
  ∀ s : State,
  (Encodes .rlA [0x01#8] 1 ∧ ∃ t, exec .rlA s = .next t ∧ t = { s with acc := t.acc, c := s.acc.getLsbD 3, pc := s.pc + 1#12 } ∧ SameMemory s t ∧
    t.acc.getLsbD 1 = s.acc.getLsbD 0 ∧ t.acc.getLsbD 2 = s.acc.getLsbD 1 ∧ t.acc.getLsbD 3 = s.acc.getLsbD 2 ∧ t.acc.getLsbD 0 = s.acc.getLsbD 3) ∧
  (Encodes .rlcA [0x03#8] 1 ∧ ∃ t, exec .rlcA s = .next t ∧ t = { s with acc := t.acc, c := s.acc.getLsbD 3, pc := s.pc + 1#12 } ∧ SameMemory s t ∧
    t.acc.getLsbD 1 = s.acc.getLsbD 0 ∧ t.acc.getLsbD 2 = s.acc.getLsbD 1 ∧ t.acc.getLsbD 3 = s.acc.getLsbD 2 ∧ t.acc.getLsbD 0 = s.c) ∧
  (Encodes .rrA [0x00#8] 1 ∧ ∃ t, exec .rrA s = .next t ∧ t = { s with acc := t.acc, c := s.acc.getLsbD 0, pc := s.pc + 1#12 } ∧ SameMemory s t ∧
    t.acc.getLsbD 0 = s.acc.getLsbD 1 ∧ t.acc.getLsbD 1 = s.acc.getLsbD 2 ∧ t.acc.getLsbD 2 = s.acc.getLsbD 3 ∧ t.acc.getLsbD 3 = s.acc.getLsbD 0) ∧
  (Encodes .rrcA [0x02#8] 1 ∧ ∃ t, exec .rrcA s = .next t ∧ t = { s with acc := t.acc, c := s.acc.getLsbD 0, pc := s.pc + 1#12 } ∧ SameMemory s t ∧
    t.acc.getLsbD 0 = s.acc.getLsbD 1 ∧ t.acc.getLsbD 1 = s.acc.getLsbD 2 ∧ t.acc.getLsbD 2 = s.acc.getLsbD 3 ∧ t.acc.getLsbD 3 = s.c)

/-- O27. Four RL A (or RR A) in a row complete with ACC as before and C the last bit that wrapped; five RLC A (or
RRC A) complete with ACC and C as before. Only PC, and C for the 4-bit rotates, differ at the end.
Rests on 44_rotate_io.md section 1. -/
def Obligations.RepeatedRotatesRestore : Prop :=
  ∀ s : State,
  execSeq [.rlA, .rlA, .rlA, .rlA] s = .next { s with c := s.acc.getLsbD 0, pc := s.pc + 4#12 } ∧
  execSeq [.rrA, .rrA, .rrA, .rrA] s = .next { s with c := s.acc.getLsbD 3, pc := s.pc + 4#12 } ∧
  execSeq [.rlcA, .rlcA, .rlcA, .rlcA, .rlcA] s = .next { s with pc := s.pc + 5#12 } ∧
  execSeq [.rrcA, .rrcA, .rrcA, .rrcA, .rrcA] s = .next { s with pc := s.pc + 5#12 }

/-- O28. IN A,PS and IN A,PP complete in every state: bit k of ACC is the level that drives pin k; where nothing
drives it, 1 if its pull-high option is selected, and otherwise a bit of a free value (log entry 10). Only ACC,
PC and the model's own count of draws change. The pairing of pins and bits is the spec's decision D21 (log entry
26).
Rests on 44_rotate_io.md section 2; 10_state.md section 5; 93_implementation_defined.md U9; 92_eei_decisions.md
D21. -/
def Obligations.PortReadsGiveThePinLevels : Prop :=
  ∀ s : State,
  (∃ t, exec .inAPs s = .next t ∧ t = { s with acc := t.acc, draws := s.draws + 1, pc := s.pc + 1#12 } ∧ SameMemory s t ∧
    ∀ k < 4, t.acc.getLsbD k =
      if s.pins.ps.driven.getLsbD k then s.pins.ps.high.getLsbD k
      else if s.chip.pullHigh.ps.getLsbD k then true else (Config.floatingPs s.draws).getLsbD k) ∧
  (∃ t, exec .inAPp s = .next t ∧ t = { s with acc := t.acc, draws := s.draws + 1, pc := s.pc + 1#12 } ∧ SameMemory s t ∧
    ∀ k < 4, t.acc.getLsbD k =
      if s.pins.pp.driven.getLsbD k then s.pins.pp.high.getLsbD k
      else if s.chip.pullHigh.pp.getLsbD k then true else (Config.floatingPp s.draws).getLsbD k)

/-- O29. OUT PA,A completes in every state with PA = ACC and PC at the next instruction, nothing else changed; the
bytes fetched next are those at nxt and nxt + 1 (modulo 4096) of the bank ACC bit 3 selects. That the new bank
applies from the very next fetch is the spec's decision D5 (log entry 20).
Rests on 44_rotate_io.md, OUT PA,A; 20_memory.md section 2; 92_eei_decisions.md D5. -/
def Obligations.OutPaSwitchesPadsAndBank : Prop :=
  ∀ s : State, ∃ t, exec .outPaA s = .next t ∧ t = { s with pa := s.acc, pc := s.pc + 1#12 } ∧ SameMemory s t ∧
  fetch t =
    (s.romByte (BitVec.ofNat 13 (4096 * (s.acc.getLsbD 3).toNat + (s.pc.toNat + 1) % 4096)),
     s.romByte (BitVec.ofNat 13 (4096 * (s.acc.getLsbD 3).toNat + (s.pc.toNat + 2) % 4096)))

/-- O30. JMP address has the bytes 1110aaaa aaaaaaaa and two cycles and completes in every state with PC = address
and nothing else changed, the bank bit included.
Formalises R176. -/
def Obligations.JmpLoadsTheWholeCounter : Prop :=
  ∀ (s : State) (addr : BitVec 12),
  Encodes (.jmp addr) [0xE#4 ++ addr.extractLsb' 8 4, addr.extractLsb' 0 8] 2 ∧ (let t : State := { s with pc := addr }; exec (.jmp addr) s = .next t ∧ SameMemory s t)

/-- O31. JC, JNC, JA0..JA3, JZ A, JNZ A, JNZ R0, JNZ R1, JNZ R4 complete in every state: PC becomes the half of nxt
with the 11-bit address if the condition holds, else nxt; JTMR does the same on TF and clears TF either way.
Nothing else changes. That bit 11 is the one of nxt is the spec's decision D6 (log entry 19).
Rests on 45_branch.md; 92_eei_decisions.md D6. -/
def Obligations.ConditionalJumpsTestAndStayInTheHalf : Prop :=
  ∀ (s : State) (addr : BitVec 11),
  (let t : State := { s with pc := if s.c = true then halfTarget (s.pc + 2#12) addr else s.pc + 2#12 }; exec (.jc addr) s = .next t ∧ SameMemory s t) ∧
  (let t : State := { s with pc := if s.c = false then halfTarget (s.pc + 2#12) addr else s.pc + 2#12 }; exec (.jnc addr) s = .next t ∧ SameMemory s t) ∧
  (let t : State := { s with pc := if s.acc.getLsbD 0 = true then halfTarget (s.pc + 2#12) addr else s.pc + 2#12 }; exec (.ja0 addr) s = .next t ∧ SameMemory s t) ∧
  (let t : State := { s with pc := if s.acc.getLsbD 1 = true then halfTarget (s.pc + 2#12) addr else s.pc + 2#12 }; exec (.ja1 addr) s = .next t ∧ SameMemory s t) ∧
  (let t : State := { s with pc := if s.acc.getLsbD 2 = true then halfTarget (s.pc + 2#12) addr else s.pc + 2#12 }; exec (.ja2 addr) s = .next t ∧ SameMemory s t) ∧
  (let t : State := { s with pc := if s.acc.getLsbD 3 = true then halfTarget (s.pc + 2#12) addr else s.pc + 2#12 }; exec (.ja3 addr) s = .next t ∧ SameMemory s t) ∧
  (let t : State := { s with pc := if s.acc = 0#4 then halfTarget (s.pc + 2#12) addr else s.pc + 2#12 }; exec (.jzA addr) s = .next t ∧ SameMemory s t) ∧
  (let t : State := { s with pc := if s.acc ≠ 0#4 then halfTarget (s.pc + 2#12) addr else s.pc + 2#12 }; exec (.jnzA addr) s = .next t ∧ SameMemory s t) ∧
  (let t : State := { s with pc := if s.r.r0 ≠ 0#4 then halfTarget (s.pc + 2#12) addr else s.pc + 2#12 }; exec (.jnzR0 addr) s = .next t ∧ SameMemory s t) ∧
  (let t : State := { s with pc := if s.r.r1 ≠ 0#4 then halfTarget (s.pc + 2#12) addr else s.pc + 2#12 }; exec (.jnzR1 addr) s = .next t ∧ SameMemory s t) ∧
  (let t : State := { s with pc := if s.r.r4 ≠ 0#4 then halfTarget (s.pc + 2#12) addr else s.pc + 2#12 }; exec (.jnzR4 addr) s = .next t ∧ SameMemory s t) ∧
  (let t : State := { s with tf := false, pc := if s.tf = true then halfTarget (s.pc + 2#12) addr else s.pc + 2#12 }; exec (.jtmr addr) s = .next t ∧ SameMemory s t)

/-- O32. With SUBF = 0, CALL completes: STK.pc is the address after it, PC the 12-bit address, SUBF 1, STK.c and
everything else unchanged (the stack register now counts as written). With SUBF = 1 it stops with NestedCall,
the spec's decision D9 (log entry 13).
Rests on 46_subroutine_flag.md section 1; 92_eei_decisions.md D9. -/
def Obligations.CallPushesOrFaults : Prop :=
  ∀ (s : State) (addr : BitVec 12),
  (s.subf = false → (let t : State := { s with stk.pc := s.pc + 2#12, stk.written := true, subf := true, pc := addr }; exec (.call addr) s = .next t ∧ SameMemory s t)) ∧
  (s.subf = true → exec (.call addr) s = .fault (.nestedCall s.pc))

/-- O33. With a written stack register RET completes with PC = STK.pc and SUBF = 0; RETI likewise, and C is STK.c
where an interrupt entry has written it since reset, else the free bit the reset left there (log entry 11). The
entry stays. With a stack register never written since reset both stop with StackUnwritten (decision D23, log
entry 12).
Rests on 46_subroutine_flag.md section 1; 92_eei_decisions.md D23. -/
def Obligations.ReturnsRestoreOrFault : Prop :=
  ∀ s : State,
  (s.stk.written = true →
  (let t : State := { s with pc := s.stk.pc, subf := false }; exec .ret s = .next t ∧ SameMemory s t) ∧
  (s.stk.cWritten = true → (let t : State := { s with pc := s.stk.pc, c := s.stk.c, subf := false }; exec .reti s = .next t ∧ SameMemory s t)) ∧
  (s.stk.cWritten = false → (let t : State := { s with pc := s.stk.pc, c := Config.stkCAtReset s.era, subf := false }; exec .reti s = .next t ∧ SameMemory s t))) ∧
  (s.stk.written = false → exec .ret s = .fault (.stackUnwritten s.pc) ∧ exec .reti s = .fault (.stackUnwritten s.pc))

/-- O34. From any state with SUBF = 0, CALL completes in a state t; from any later state v whose stack register is
still t's, RET and RETI complete with PC at the address after the CALL and SUBF = 0. RET leaves C as in v; RETI
loads STK.c where an interrupt entry has written it since reset, for the CALL did not, and else the free bit
that v's last reset left there (D23, log entry 11). Everything else stays as in v.
Rests on 46_subroutine_flag.md section 1; 10_state.md section 3; 92_eei_decisions.md D23. -/
def Obligations.CallThenReturn : Prop :=
  ∀ (s : State) (addr : BitVec 12), s.subf = false →
  ∃ t, exec (.call addr) s = .next t ∧ t.pc = addr ∧ t.subf = true ∧
    ∀ v : State, v.stk = t.stk →
      exec .ret v = .next { v with pc := s.pc + 2#12, subf := false } ∧
      exec .reti v = .next { v with pc := s.pc + 2#12, subf := false,
                                    c := if s.stk.cWritten then s.stk.c else Config.stkCAtReset v.era }

/-- O35. CLC clears C, STC sets C, DI clears IE, NOP does neither; each has its one byte and one cycle, completes in
every state, moves PC to the next instruction and changes nothing else (DI leaves TF and EXF pending).
Formalises R193, R194, R196, R197. -/
def Obligations.FlagInstructionsAndNop : Prop :=
  ∀ s : State,
  Encodes .clc [0x2A#8] 1 ∧ (let t : State := { s with c := false, pc := s.pc + 1#12 }; exec .clc s = .next t ∧ SameMemory s t) ∧
  Encodes .stc [0x2B#8] 1 ∧ (let t : State := { s with c := true, pc := s.pc + 1#12 }; exec .stc s = .next t ∧ SameMemory s t) ∧
  Encodes .di [0x2D#8] 1 ∧ (let t : State := { s with ie := false, pc := s.pc + 1#12 }; exec .di s = .next t ∧ SameMemory s t) ∧
  Encodes .nop [0x3E#8] 1 ∧ (let t : State := { s with pc := s.pc + 1#12 }; exec .nop s = .next t ∧ SameMemory s t)

/-- O36. EI completes in every state with IE = 1, PC at the next instruction and nothing else changed. In that
state, outside HALT, with SUBF = 0 and no event due, the step is the entry with the address after the EI and C
saved, whatever instruction stands there: at 004H with TF cleared if TF is set and EXF is not or INT_PRIORITY is
timer_first, at 008H with EXF cleared if EXF is set and TF is not or the priority is external_first. No delay is
decision D10 (log entry 20); the priority is open (D11, log entry 7).
Rests on 46_subroutine_flag.md section 2; 60_exceptions.md sections 2 and 3; 92_eei_decisions.md D10, D11. -/
def Obligations.EiLetsAPendingInterruptInAtOnce : Prop :=
  ∀ s : State, ∃ t, exec .ei s = .next t ∧ t = { s with ie := true, pc := s.pc + 1#12 } ∧ SameMemory s t ∧
  (s.env = [] → s.halted = false → s.subf = false →
    (s.tf = true → s.exf = false ∨ s.chip.intPriority = .timerFirst →
      step t = .next { t with stk := ⟨s.pc + 1#12, s.c, true, true⟩, subf := true, tf := false, pc := 0x004#12 }) ∧
    (s.exf = true → s.tf = false ∨ s.chip.intPriority = .externalFirst →
      step t = .next { t with stk := ⟨s.pc + 1#12, s.c, true, true⟩, subf := true, exf := false, pc := 0x008#12 }))

/-- O37. TIMER XXH loads all of TMR (after which TF is set at the (256 - v)th timer clock), TIMER ON and TIMER OFF
set and clear TON, the four nibble moves copy between ACC and a nibble of TMR; each has its bytes and cycles,
completes in every state, moves PC to the next instruction and changes nothing else. That none of them touches
TF or the divider is the spec's inference in R207 and its decision D27 (log entry 27).
Rests on 47_timer.md, the seven timer instructions and the rule on their side effects; 92_eei_decisions.md D27. -/
def Obligations.TimerInstructions : Prop :=
  ∀ s : State,
  (∀ d : Byte, Encodes (.timerX d) [0x47#8, d] 2 ∧ (let t : State := { s with tmr := d, pc := s.pc + 2#12 }; exec (.timerX d) s = .next t ∧ SameMemory s t) ∧
    ∀ k, (timerClocks k { s with tmr := d, pc := s.pc + 2#12 }).tf = (s.tf || decide (256 ≤ d.toNat + k))) ∧
  Encodes .timerOn [0x38#8] 1 ∧ (let t : State := { s with ton := true, pc := s.pc + 1#12 }; exec .timerOn s = .next t ∧ SameMemory s t) ∧
  Encodes .timerOff [0x39#8] 1 ∧ (let t : State := { s with ton := false, pc := s.pc + 1#12 }; exec .timerOff s = .next t ∧ SameMemory s t) ∧
  Encodes .movATmrl [0x3A#8] 1 ∧ (let t : State := { s with acc := s.tmr.extractLsb' 0 4, pc := s.pc + 1#12 }; exec .movATmrl s = .next t ∧ SameMemory s t) ∧
  Encodes .movATmrh [0x3B#8] 1 ∧ (let t : State := { s with acc := s.tmr.extractLsb' 4 4, pc := s.pc + 1#12 }; exec .movATmrh s = .next t ∧ SameMemory s t) ∧
  Encodes .movTmrlA [0x3C#8] 1 ∧ (let t : State := { s with tmr := s.tmr.extractLsb' 4 4 ++ s.acc, pc := s.pc + 1#12 }; exec .movTmrlA s = .next t ∧ SameMemory s t) ∧
  Encodes .movTmrhA [0x3D#8] 1 ∧ (let t : State := { s with tmr := s.acc ++ s.tmr.extractLsb' 0 4, pc := s.pc + 1#12 }; exec .movTmrhA s = .next t ∧ SameMemory s t)

/-- O38. After k timer clocks TMR is TMR + k modulo 256, TF is set if it was set or if TMR + k reaches 256, and
nothing else has changed: there is no reload, and further overflows are not counted.
Rests on 60_exceptions.md section 5. -/
def Obligations.TimerClocksCountAndOverflow : Prop :=
  ∀ (k : Nat) (s : State),
  (timerClocks k s).tmr.toNat = (s.tmr.toNat + k) % 256 ∧
  (timerClocks k s).tf = (s.tf || decide (256 ≤ s.tmr.toNat + k)) ∧
  timerClocks k s = { s with tmr := (timerClocks k s).tmr, tf := (timerClocks k s).tf }

/-- O39. While TON = 1 and HALTED = 0, an instruction of cyc machine cycles brings k timer clocks where phase +
4*cyc = new phase + k * 2^n and the new phase is below 2^n; TMR, TF and the phase change accordingly and nothing
else does. Otherwise nothing changes. That TIMER ON's own cycle counts is the model's choice (log entry 9).
Rests on 60_exceptions.md section 5; 92_eei_decisions.md D24. -/
def Obligations.TimerRunsByOscillatorPeriods : Prop :=
  ∀ (cyc : Nat) (s : State),
  (s.ton = true → s.halted = false →
    ∃ k, (timerAfter cyc s).phase + k * 2 ^ s.chip.timerDiv.exponent = s.phase + 4 * cyc ∧
      (timerAfter cyc s).phase < 2 ^ s.chip.timerDiv.exponent ∧
      (timerAfter cyc s).tmr.toNat = (s.tmr.toNat + k) % 256 ∧
      (timerAfter cyc s).tf = (s.tf || decide (256 ≤ s.tmr.toNat + k)) ∧
      timerAfter cyc s =
        { s with tmr := (timerAfter cyc s).tmr, tf := (timerAfter cyc s).tf, phase := (timerAfter cyc s).phase }) ∧
  (¬(s.ton = true ∧ s.halted = false) → timerAfter cyc s = s)

/-- O40. At a usable address both complete: the byte at 4096*PA3 + 256*page + 16*ACC + M(R1,R0), with the page of
the next instruction for READ and page F for READF, goes high nibble to R4 and low nibble to ACC; PC goes to the
next instruction and nothing else changes. The page of nxt is the spec's decision D7 (log entry 19), the order
of reads and writes D30 (log entry 27).
Rests on 48_tableread.md, READ R4A; READF R4A; 92_eei_decisions.md D7, D30. -/
def Obligations.TableReadsIntoR4 : Prop :=
  ∀ s : State, Usable (dp10 s) →
  (let b := tableByte s ((s.pc + 1#12).toNat / 256) (s.cell (dp10 s))
    let t : State := { s with r.r4 := b.extractLsb' 4 4, acc := b.extractLsb' 0 4, pc := s.pc + 1#12 }
    exec .readR4a s = .next t ∧ SameMemory s t) ∧
  (let b := tableByte s (15) (s.cell (dp10 s))
    let t : State := { s with r.r4 := b.extractLsb' 4 4, acc := b.extractLsb' 0 4, pc := s.pc + 1#12 }
    exec .readfR4a s = .next t ∧ SameMemory s t)

/-- O41. At a usable address both complete: the byte at 4096*PA3 + 256*page + 16*ACC + R4 goes high nibble to the
cell at R1:R0 and low nibble to ACC; every other cell and ROM byte reads as before, PC goes to the next
instruction and nothing else changes. The page of nxt is the spec's decision D7 (log entry 19), the order of
reads and writes D30 (log entry 27).
Rests on 48_tableread.md, READ MR0A; READF MR0A; 92_eei_decisions.md D7, D30. -/
def Obligations.TableReadsIntoMemory : Prop :=
  ∀ s : State, Usable (dp10 s) →
  (let b := tableByte s ((s.pc + 1#12).toNat / 256) s.r.r4
    ∃ t, exec .readMr0a s = .next t ∧ StoredOnly s t (dp10 s) (b.extractLsb' 4 4) ∧
      t = { s with ram := t.ram, acc := b.extractLsb' 0 4, pc := s.pc + 1#12 }) ∧
  (let b := tableByte s (15) s.r.r4
    ∃ t, exec .readfMr0a s = .next t ∧ StoredOnly s t (dp10 s) (b.extractLsb' 4 4) ∧
      t = { s with ram := t.ram, acc := b.extractLsb' 0 4, pc := s.pc + 1#12 })

/-- O42. SOUND A starts the sound whose number is in ACC, SOUND ONE and SOUND LOOP select the mode, SOUND OFF stops
the sound; each has its one byte and one cycle, completes in every state and changes nothing else but PC.
Formalises R221, R222, R223, R224. -/
def Obligations.SoundControl : Prop :=
  ∀ s : State,
  Encodes .soundA [0x4B#8] 1 ∧ (let t : State := { s with snd.on := true, snd.ch := s.acc, pc := s.pc + 1#12 }; exec .soundA s = .next t ∧ SameMemory s t) ∧
  Encodes .soundOne [0x48#8] 1 ∧ (let t : State := { s with snd.loop := false, pc := s.pc + 1#12 }; exec .soundOne s = .next t ∧ SameMemory s t) ∧
  Encodes .soundLoop [0x49#8] 1 ∧ (let t : State := { s with snd.loop := true, pc := s.pc + 1#12 }; exec .soundLoop s = .next t ∧ SameMemory s t) ∧
  Encodes .soundOff [0x4A#8] 1 ∧ (let t : State := { s with snd.on := false, pc := s.pc + 1#12 }; exec .soundOff s = .next t ∧ SameMemory s t)

/-- O43. SOUND n completes in every state with SND.ch = n, SND.on = 1 and SND.loop unchanged. HALT completes in
every state with HALTED = 1 and PC two bytes on, EXF and everything else unchanged (EXF is the spec's decision
D13, log entry 24; the second byte of HALT D17, log entry 15).
Rests on 49_sound_halt.md, SOUND n; HALT; 92_eei_decisions.md D13, D17. -/
def Obligations.SoundNumberAndHalt : Prop :=
  ∀ (s : State) (n : Nibble),
  (let t : State := { s with snd.on := true, snd.ch := n, pc := s.pc + 2#12 }; exec (.soundN n) s = .next t ∧ SameMemory s t) ∧
  (let t : State := { s with halted := true, pc := s.pc + 2#12 }; exec .halt s = .next t ∧ SameMemory s t)

/-- O44. Two states that differ only in the sound state step to the same fault, or to next states that differ only
in the sound state, for every instruction, event, interrupt and wake-up. That the end of a sound is an event is
the model's form (log entry 16).
Rests on 49_sound_halt.md section 1; 10_state.md section 4. -/
def Obligations.SoundStateInfluencesNothing : Prop :=
  ∀ (s : State) (x : Sound), forgetSound (step (s.setSnd x)) = forgetSound (step s)

/-- O45. In HALT mode, if no reset is due and no falling edge of a WAKE pin arrives, the step completes and changes
only the record of the outside (the events taken, what drives the pins, the draws): HALTED, PC, all registers,
RAM, TMR, TF, EXF and the sound state stay. A pending TF does not wake the chip. That floating WAKE pins make no
edge while no event changes the pins is the model's choice (log entry 10, unsafe), and so is that the end of a
sound does nothing in HALT (log entry 16).
Rests on 60_exceptions.md section 4; 10_state.md section 4. -/
def Obligations.HaltedChipStaysAsItIs : Prop :=
  ∀ s : State, s.halted = true → resetDue s = false →
  (∀ p rest, s.env = .pinsChange p :: rest → wakeEdge s.chip.wake (pinLevels s) (pinLevels (withPins p s)) = false) →
  ∃ t, step s = .next t ∧ SameMemory s t ∧ t = { s with env := s.env.tail, pins := t.pins, draws := t.draws }

/-- O46. When a falling edge of a WAKE pin arrives in HALT mode, HALTED clears and EXF is set, RAM and the registers
as they were, and the same step goes on. With IE = 1 and SUBF = 0 it enters with the address after the HALT and
C saved: at 008H with EXF cleared if TF = 0 or INT_PRIORITY is external_first; at 004H with TF cleared and EXF
left pending if TF = 1 and it is timer_first. With IE = 0 or SUBF = 1 it runs the instruction after the HALT
with EXF pending. Decisions D13 and D14, and that all this is one step: log entry 24; the priority is open (D11,
log entry 7), SND.on free (log entry 16).
Rests on 60_exceptions.md section 4; 60_exceptions.md section 7, steps (2) and (3); 92_eei_decisions.md D11,
D13, D14. -/
def Obligations.WakeUpResumesOrEntersTheInterrupt : Prop :=
  ∀ (s : State) (p : Pins) (rest : List Event), s.halted = true → s.env = .pinsChange p :: rest →
  wakeEdge s.chip.wake (pinLevels s) (pinLevels (withPins p s)) = true →
  ∃ u, u = { s with halted := false, exf := true, env := rest, pins := p, draws := u.draws, snd.on := u.snd.on } ∧
    (s.snd.on = false → u.snd.on = false) ∧
    (s.ie = true → s.subf = false → s.tf = false ∨ s.chip.intPriority = .externalFirst →
      step s = .next { u with exf := false, stk := ⟨s.pc, s.c, true, true⟩, subf := true, pc := 0x008#12 }) ∧
    (s.ie = true → s.subf = false → s.tf = true → s.chip.intPriority = .timerFirst →
      step s = .next { u with tf := false, stk := ⟨s.pc, s.c, true, true⟩, subf := true, pc := 0x004#12 }) ∧
    (s.ie = false ∨ s.subf = true → step s = runInstruction u)

/-- O47. If no pin has the WAKE option and no reset is among the events to come, then any number of steps from a
halted state completes and ends halted with PC, ACC and RAM unchanged. One event a step is the model's form of
the outside (log entry 8).
Rests on 60_exceptions.md section 4; 93_implementation_defined.md U24. -/
def Obligations.HaltWithoutWakeOptionIsForEver : Prop :=
  ∀ (k : Nat) (s : State), s.halted = true → s.chip.wake = ⟨0#4, 0#4⟩ → Event.resetPulse ∉ s.env →
  ∃ t, core.run k s = .next t ∧ t.halted = true ∧ t.pc = s.pc ∧ t.acc = s.acc ∧ SameMemory s t

/-- O48. Outside HALT and without reset, whatever event the step first takes (idle, pin change or end of a sound,
which change only env, pins, draws and SND.on), with IE = 1 and SUBF = 0: if TF is set and EXF is not, or
INT_PRIORITY is timer_first, the step is the timer entry at 004H; if EXF is set and TF is not, or the priority
is external_first, the external one at 008H. STK takes PC and C, SUBF is set, the flag cleared, all else (IE,
PA, the other flag) stays. In every other case the step runs the instruction. Decisions D8, D12 (log entry 23);
priority open (D11, log entry 7).
Rests on 60_exceptions.md sections 2 and 3; 60_exceptions.md section 7, step (3); 92_eei_decisions.md D8, D11,
D12. -/
def Obligations.InterruptEntrySavesAndVectors : Prop :=
  ∀ s : State, resetDue s = false → s.halted = false →
  ∃ u, u = { s with env := s.env.tail, pins := u.pins, draws := u.draws, snd.on := u.snd.on } ∧ (s.env = [] → u = s) ∧
    (s.ie = true → s.subf = false → s.tf = true → s.exf = false ∨ s.chip.intPriority = .timerFirst →
      step s = .next { u with stk := ⟨s.pc, s.c, true, true⟩, subf := true, tf := false, pc := 0x004#12 }) ∧
    (s.ie = true → s.subf = false → s.exf = true → s.tf = false ∨ s.chip.intPriority = .externalFirst →
      step s = .next { u with stk := ⟨s.pc, s.c, true, true⟩, subf := true, exf := false, pc := 0x008#12 }) ∧
    (s.ie = false ∨ s.subf = true ∨ (s.tf = false ∧ s.exf = false) → step s = runInstruction u)

/-- O49. After the entry of either interrupt from a state s, in any later state v whose stack register is still the
entry's, RETI completes with PC and C those of s and SUBF = 0, and RET with PC that of s, C that of v and SUBF =
0; everything else, IE included, stays as in v (IE by the spec's decision D12, log entry 23).
Rests on 60_exceptions.md section 3; 46_subroutine_flag.md section 1. -/
def Obligations.ServiceRoutineReturnsToTheInterrupted : Prop :=
  ∀ (s v : State) (src : IntSource), v.stk = (interruptEntry src s).stk →
  exec .reti v = .next { v with pc := s.pc, c := s.c, subf := false } ∧
  exec .ret v = .next { v with pc := s.pc, subf := false }

/-- O50. In any step without reset: with SUBF = 1 no interrupt is taken; EXF stays set unless the step takes the
external interrupt, so also across HALT, a wake-up with IE = 0 and the timer's entry; TF stays set unless the
step takes the timer interrupt or runs a JTMR. That EXF has no other end of life is the spec's decision D13 (log
entry 24, unsafe); that entry, which sets SUBF, holds the other source is D8 (log entry 23).
Rests on 60_exceptions.md section 2; 10_state.md section 4; 92_eei_decisions.md D8, D13. -/
def Obligations.HeldInterruptsAreNotLost : Prop :=
  ∀ s t : State, resetDue s = false → step s = .next t →
  (s.subf = true → ∀ src, ¬Takes s src) ∧
  (s.exf = true → t.exf = true ∨ Takes s .external) ∧
  (s.tf = true → t.tf = true ∨ Takes s .timer ∨ ∃ addr, Runs s (.jtmr addr))

/-- O51. For every instruction and state: if exec gives a next state and the instruction is not one of those the
spec lists as writing C, C is unchanged; and PA is unchanged unless the instruction is OUT PA,A.
Rests on 10_state.md sections 2 and 3. -/
def Obligations.OnlyListedInstructionsWriteCarry : Prop :=
  ∀ (i : Instr) (s t : State), exec i s = .next t →
  (writesCarry i = false → t.c = s.c) ∧ (i ≠ .outPaA → t.pa = s.pa)

/-- O52. For every instruction and state with a next state, every RAM cell reads as before but the one at R1:R0 for
the eight store forms through R1,R0 and the one at R3:R2 for the three store forms through R3,R2, the address
taken before the instruction.
Rests on 10_state.md section 6; 20_memory.md section 3. -/
def Obligations.StoresGoOnlyThroughThePointers : Prop :=
  ∀ (i : Instr) (s t : State), exec i s = .next t → ∀ b : DataAddr,
  ¬(storesAt10 i = true ∧ b = dp10 s) → ¬(storesAt32 i = true ∧ b = dp32 s) → t.cell b = s.cell b

/-- O53. For every step: every ROM byte reads as before, and where PA bit 3 is unchanged every 12-bit address reads
the same byte of program memory as before. So fetches and table reads return the constant ROM byte of the
current bank.
Formalises R76. -/
def Obligations.RomNeverChanges : Prop :=
  ∀ s t : State, step s = .next t →
  (∀ p, t.romByte p = s.romByte p) ∧ (t.pa.getLsbD 3 = s.pa.getLsbD 3 → ∀ p, t.romRead p = s.romRead p)

/-- O54. For every step without a reset due: if PA changes, the step runs OUT PA,A and PA becomes ACC; if IE
changes, it runs EI and IE becomes 1, or DI and 0; if the stack register changes, it takes an interrupt or runs
CALL; if SUBF changes, it takes an interrupt or runs CALL and SUBF becomes 1, or it runs RET or RETI and SUBF
becomes 0. In every step the chip constants stay. That entry and returns leave IE is the spec's decision D12
(log entry 23); that a return does not erase STK is D23 (log entry 12); that entry sets SUBF is D8 (log entry
23).
Rests on 10_state.md sections 3, 4 and 6; 20_memory.md section 2; 00_scope.md section 3; 92_eei_decisions.md D8,
D12, D23. -/
def Obligations.ControlStateChangesOnlyWhereTheSpecSays : Prop :=
  ∀ s t : State, step s = .next t →
  t.chip = s.chip ∧
  (resetDue s = false →
    (t.pa ≠ s.pa → Runs s .outPaA ∧ t.pa = s.acc) ∧
    (t.ie ≠ s.ie → (Runs s .ei ∧ t.ie = true) ∨ (Runs s .di ∧ t.ie = false)) ∧
    (t.stk ≠ s.stk → (∃ src, Takes s src) ∨ ∃ addr, Runs s (.call addr)) ∧
    (t.subf ≠ s.subf →
      (t.subf = true ∧ ((∃ src, Takes s src) ∨ ∃ addr, Runs s (.call addr))) ∨
      (t.subf = false ∧ (Runs s .ret ∨ Runs s .reti))))

/-- O55. For all 95 instructions, all operands and all states: exec answers the fault that faultOf computes (an
access at A0H-AFH by an instruction with that operand, CALL with SUBF = 1, RET or RETI on a stack register never
written since reset), and where faultOf computes none exec answers a next state. No instruction is refused. The
three faults are the spec's decisions D18, D9 and D23 (log entries 14, 13 and 12).
Rests on 60_exceptions.md section 1; 20_memory.md section 3; 92_eei_decisions.md D9, D18, D23. -/
def Obligations.EveryInstructionCompletesOrFaultsByName : Prop :=
  ∀ (i : Instr) (s : State),
  match faultOf i s with
  | some f => exec i s = .fault f
  | none => ∃ t, exec i s = .next t

/-- O56. For segment s and common c the cell address is FFH - 2s - (c div 4), within B0H-FFH, and two different dots
never share a cell and a bit. The pairing of rows and commons is read from the order of the figure's labels (log
entry 21).
Rests on 20_memory.md section 3, LCD mapping; 91_not_in_source.md N8. -/
def Obligations.LcdDotsCoverTheDisplayArea : Prop :=
  (∀ (g : Fin 40) (c : Fin 8),
    (lcdAddr g c).toNat = 0xFF - 2 * g.val - c.val / 4 ∧ 0xB0 ≤ (lcdAddr g c).toNat ∧ Usable (lcdAddr g c)) ∧
  (∀ (g g' : Fin 40) (c c' : Fin 8), lcdAddr g c = lcdAddr g' c' → c.val % 4 = c'.val % 4 → g = g' ∧ c = c') ∧
  ∀ (s : State) (g : Fin 40) (c : Fin 8),
    lcdDot s g c = (!s.halted && (s.cell (lcdAddr g c)).getLsbD (c.val % 4))

/-- O57. For every step without a reset due: if TON changes, the step runs TIMER ON or TIMER OFF; if TF becomes set,
it runs an instruction after whose effect the timer runs, outside HALT, and its clocks carry TMR past FFH; if
TMR changes, it runs a load of TMR, or an instruction after whose effect the timer runs and at least one timer
clock falls due. So no entry, wake-up, edge or other event sets TF or counts. When the clocks of an instruction
fall due is the timing-exact model (D24, log entry 9).
Rests on 10_state.md sections 4 and 6; 60_exceptions.md section 5; 47_timer.md; 92_eei_decisions.md D24, D27. -/
def Obligations.TimerStateChangesOnlyWhereTheSpecSays : Prop :=
  ∀ s t : State, resetDue s = false → step s = .next t →
  (t.ton ≠ s.ton → (Runs s .timerOn ∧ t.ton = true) ∨ (Runs s .timerOff ∧ t.ton = false)) ∧
  (s.tf = false → t.tf = true →
    ∃ i v, Runs s i ∧ exec i (takeEvent s) = .next v ∧ v.ton = true ∧ v.halted = false ∧
      256 ≤ v.tmr.toNat + (v.phase + 4 * i.cycles) / 2 ^ s.chip.timerDiv.exponent) ∧
  (t.tmr ≠ s.tmr →
    ∃ i v, Runs s i ∧ exec i (takeEvent s) = .next v ∧
      ((∃ d, i = .timerX d) ∨ i = .movTmrlA ∨ i = .movTmrhA ∨
        (v.ton = true ∧ v.halted = false ∧ 2 ^ s.chip.timerDiv.exponent ≤ v.phase + 4 * i.cycles)))

/-- O58. For every step without a reset due: if HALTED becomes set, the step runs HALT; if HALTED clears or EXF
becomes set, its event is a falling edge of a WAKE pin in HALT mode; so an edge while the chip runs sets
nothing, and no timer flag ends HALT; if EXF clears, the step takes the external interrupt. The life of EXF is
the spec's decision D13 (log entry 24); an edge of a floating WAKE pin is the model's choice (log entry 10).
Rests on 10_state.md sections 4 and 6; 60_exceptions.md sections 2 and 4; 92_eei_decisions.md D13. -/
def Obligations.HaltAndLatchChangeOnlyWhereTheSpecSays : Prop :=
  ∀ s t : State, resetDue s = false → step s = .next t →
  (s.halted = false → t.halted = true → Runs s .halt) ∧
  (s.halted = true → t.halted = false → Wakes s) ∧
  (s.exf = false → t.exf = true → Wakes s) ∧
  (s.exf = true → t.exf = false → Takes s .external)

/-- O59. For every step without a reset due: if SND.ch changes, the step runs SOUND n and it becomes n, or SOUND A
and it becomes ACC; if SND.loop changes, it runs SOUND LOOP or SOUND ONE; if SND.on becomes set, it runs SOUND n
or SOUND A; if SND.on clears, it runs SOUND OFF, or its event is the end of a sound in SONE mode outside HALT,
or a wake-up edge, after which the sound plays on or not by a free bit (U13). The form of the last two is the
model's (log entry 16).
Rests on 10_state.md sections 4 and 6; 49_sound_halt.md sections 1 and 2; 93_implementation_defined.md U13, U20. -/
def Obligations.SoundStateChangesOnlyWhereTheSpecSays : Prop :=
  ∀ s t : State, resetDue s = false → step s = .next t →
  (t.snd.ch ≠ s.snd.ch → (∃ n, Runs s (.soundN n) ∧ t.snd.ch = n) ∨ (Runs s .soundA ∧ t.snd.ch = s.acc)) ∧
  (t.snd.loop ≠ s.snd.loop →
    (Runs s .soundLoop ∧ t.snd.loop = true) ∨ (Runs s .soundOne ∧ t.snd.loop = false)) ∧
  (s.snd.on = false → t.snd.on = true → (∃ n, Runs s (.soundN n)) ∨ Runs s .soundA) ∧
  (s.snd.on = true → t.snd.on = false →
    Runs s .soundOff ∨ (s.env.head? = some .soundEnds ∧ s.snd.loop = false ∧ s.halted = false) ∨ Wakes s)

/-- O60. Outside HALT, for every event but reset, the step is what the boundary does on a stated state: for idle the
state with the event taken; for a change of the pins also with the new drive and one more draw, no EXF, whatever
edges it holds; for the end of a sound SND.on is cleared in SONE mode, and in SLOOP mode it stays. One event a
step and the end of a sound as an event are the model's forms (log entries 8 and 16), the draw too (log entry
10).
Rests on 60_exceptions.md section 2; 60_exceptions.md section 7; 10_state.md section 4; 49_sound_halt.md section
1. -/
def Obligations.EventsOutsideHaltSetNothing : Prop :=
  ∀ (s : State) (rest : List Event), s.halted = false →
  (s.env = .idle :: rest → step s = atBoundary { s with env := rest }) ∧
  (∀ p, s.env = .pinsChange p :: rest →
    step s = atBoundary { s with env := rest, pins := p, draws := s.draws + 1 }) ∧
  (s.env = .soundEnds :: rest →
    step s = atBoundary { s with env := rest, snd.on := s.snd.on && s.snd.loop })
end

