-- ==== Sys2Proof/Laws/Memory.lean ====
section
/-! SUPPORT. The list of memory cells: a read after a write, what a write leaves alone, and that every memory operation
keeps the canonical form. -/

namespace Sys2Proof.Machine

variable {w : Nat}

@[simp] theorem Memory.find_put_same (m : List (Nat × BitVec w)) (a : Nat) (v : BitVec w) :
    Memory.find (Memory.put m a v) a = some v := by
  induction m with
  | nil => simp [Memory.put, Memory.find]
  | cons e rest ih =>
    obtain ⟨k, x⟩ := e
    by_cases h1 : a < k
    · simp [Memory.put, Memory.find, h1]
    · by_cases h2 : a = k
      · simp [Memory.put, Memory.find, h2]
      · simp [Memory.put, Memory.find, h1, h2, ih]

theorem Memory.find_put_other (m : List (Nat × BitVec w)) (a b : Nat) (v : BitVec w) (h : b ≠ a) :
    Memory.find (Memory.put m a v) b = Memory.find m b := by
  induction m with
  | nil => simp [Memory.put, Memory.find, h]
  | cons e rest ih =>
    obtain ⟨k, x⟩ := e
    by_cases h1 : a < k
    · simp [Memory.put, Memory.find, h1, h]
    · by_cases h2 : a = k
      · subst h2
        simp [Memory.put, Memory.find, h]
      · by_cases h3 : b = k <;> simp [Memory.put, Memory.find, h1, h2, h3, ih]

/-- A strictly rising list stays so behind a smaller address. -/
theorem Memory.rising_cons (k : Nat) (x : BitVec w) (m : List (Nat × BitVec w)) :
    Memory.rising ((k, x) :: m) = true ↔ (∀ e ∈ m.head?, k < e.1) ∧ Memory.rising m = true := by
  cases m with
  | nil => simp [Memory.rising]
  | cons e rest => simp [Memory.rising]

/-- Where `put` puts the head of the list: at the new address or at the old head's. -/
theorem Memory.head_put (m : List (Nat × BitVec w)) (a : Nat) (v : BitVec w) :
    ∀ e ∈ (Memory.put m a v).head?, e.1 = a ∨ ∃ f ∈ m.head?, e.1 = f.1 := by
  cases m with
  | nil => simp [Memory.put]
  | cons f rest =>
    obtain ⟨k, x⟩ := f
    by_cases h1 : a < k
    · simp [Memory.put, h1]
    · by_cases h2 : a = k <;> simp [Memory.put, h1, h2]

theorem Memory.rising_put (m : List (Nat × BitVec w)) (a : Nat) (v : BitVec w)
    (h : Memory.rising m = true) : Memory.rising (Memory.put m a v) = true := by
  induction m with
  | nil => rfl
  | cons e rest ih =>
    obtain ⟨k, x⟩ := e
    obtain ⟨hhead, hrest⟩ := (Memory.rising_cons k x rest).1 h
    by_cases h1 : a < k
    · simpa [Memory.put, h1, Memory.rising] using h
    · by_cases h2 : a = k
      · subst h2
        simpa [Memory.put] using (Memory.rising_cons a v rest).2 ⟨hhead, hrest⟩
      · simp only [Memory.put, h1, h2, if_false]
        refine (Memory.rising_cons k x _).2 ⟨fun e he => ?_, ih hrest⟩
        rcases Memory.head_put rest a v e he with h3 | ⟨f, hf, h3⟩
        · omega
        · exact h3 ▸ hhead f hf

/-- Every listed address of the written list is the new one or an old one. -/
theorem Memory.mem_put (m : List (Nat × BitVec w)) (a : Nat) (v : BitVec w) :
    ∀ e ∈ Memory.put m a v, e = (a, v) ∨ e ∈ m := by
  induction m with
  | nil => simp [Memory.put]
  | cons f rest ih =>
    obtain ⟨k, x⟩ := f
    intro e he
    by_cases h1 : a < k
    · simpa [Memory.put, h1] using he
    · by_cases h2 : a = k
      · subst h2
        have he' : e ∈ (a, v) :: rest := by simpa [Memory.put] using he
        exact (List.mem_cons.1 he').imp_right (List.mem_cons_of_mem _)
      · simp only [Memory.put, h1, h2, if_false, List.mem_cons] at he
        rcases he with rfl | he
        · exact .inr List.mem_cons_self
        · exact (ih e he).imp_right (List.mem_cons_of_mem _)

/-- Writing at an address that exists keeps the canonical form. -/
theorem Memory.wf_put (existing : Nat → Bool) (m : List (Nat × BitVec w)) (a : Nat) (v : BitVec w)
    (hm : Memory.wf existing m = true) (ha : existing a = true) :
    Memory.wf existing (Memory.put m a v) = true := by
  simp only [Memory.wf, Bool.and_eq_true, List.all_eq_true] at hm ⊢
  refine ⟨Memory.rising_put m a v hm.1, fun e he => ?_⟩
  rcases Memory.mem_put m a v e he with rfl | h
  · exact ha
  · exact hm.2 e h

@[simp] theorem Memory.wf_nil (existing : Nat → Bool) : Memory.wf existing ([] : List (Nat × BitVec w)) = true := rfl

end Sys2Proof.Machine
end

