-- ==== Sys2Proof/Laws/State.lean ====
section
/-! SUPPORT. One lemma per field per update of State, each true by rfl, so that no proof unfolds a record update; and the
same for the two derived reads, one RAM cell and one ROM byte. -/

namespace Sys2Proof.Machine

/-! ### setAcc -/

@[simp] theorem State.setAcc_acc (s : State) (v : Nibble) : (s.setAcc v).acc = v := rfl
@[simp] theorem State.setAcc_r (s : State) (v : Nibble) : (s.setAcc v).r = s.r := rfl
@[simp] theorem State.setAcc_c (s : State) (v : Nibble) : (s.setAcc v).c = s.c := rfl
@[simp] theorem State.setAcc_pc (s : State) (v : Nibble) : (s.setAcc v).pc = s.pc := rfl
@[simp] theorem State.setAcc_pa (s : State) (v : Nibble) : (s.setAcc v).pa = s.pa := rfl
@[simp] theorem State.setAcc_stk (s : State) (v : Nibble) : (s.setAcc v).stk = s.stk := rfl
@[simp] theorem State.setAcc_subf (s : State) (v : Nibble) : (s.setAcc v).subf = s.subf := rfl
@[simp] theorem State.setAcc_tmr (s : State) (v : Nibble) : (s.setAcc v).tmr = s.tmr := rfl
@[simp] theorem State.setAcc_ton (s : State) (v : Nibble) : (s.setAcc v).ton = s.ton := rfl
@[simp] theorem State.setAcc_tf (s : State) (v : Nibble) : (s.setAcc v).tf = s.tf := rfl
@[simp] theorem State.setAcc_phase (s : State) (v : Nibble) : (s.setAcc v).phase = s.phase := rfl
@[simp] theorem State.setAcc_ie (s : State) (v : Nibble) : (s.setAcc v).ie = s.ie := rfl
@[simp] theorem State.setAcc_exf (s : State) (v : Nibble) : (s.setAcc v).exf = s.exf := rfl
@[simp] theorem State.setAcc_halted (s : State) (v : Nibble) : (s.setAcc v).halted = s.halted := rfl
@[simp] theorem State.setAcc_snd (s : State) (v : Nibble) : (s.setAcc v).snd = s.snd := rfl
@[simp] theorem State.setAcc_ram (s : State) (v : Nibble) : (s.setAcc v).ram = s.ram := rfl
@[simp] theorem State.setAcc_rom (s : State) (v : Nibble) : (s.setAcc v).rom = s.rom := rfl
@[simp] theorem State.setAcc_era (s : State) (v : Nibble) : (s.setAcc v).era = s.era := rfl
@[simp] theorem State.setAcc_draws (s : State) (v : Nibble) : (s.setAcc v).draws = s.draws := rfl
@[simp] theorem State.setAcc_pins (s : State) (v : Nibble) : (s.setAcc v).pins = s.pins := rfl
@[simp] theorem State.setAcc_env (s : State) (v : Nibble) : (s.setAcc v).env = s.env := rfl
@[simp] theorem State.setAcc_chip (s : State) (v : Nibble) : (s.setAcc v).chip = s.chip := rfl
@[simp] theorem State.setAcc_cell (s : State) (v : Nibble) (a : DataAddr) : (s.setAcc v).cell a = s.cell a := rfl
@[simp] theorem State.setAcc_romByte (s : State) (v : Nibble) (p : BitVec 13) : (s.setAcc v).romByte p = s.romByte p := rfl

/-! ### setCarry -/

@[simp] theorem State.setCarry_acc (s : State) (v : Bool) : (s.setCarry v).acc = s.acc := rfl
@[simp] theorem State.setCarry_r (s : State) (v : Bool) : (s.setCarry v).r = s.r := rfl
@[simp] theorem State.setCarry_c (s : State) (v : Bool) : (s.setCarry v).c = v := rfl
@[simp] theorem State.setCarry_pc (s : State) (v : Bool) : (s.setCarry v).pc = s.pc := rfl
@[simp] theorem State.setCarry_pa (s : State) (v : Bool) : (s.setCarry v).pa = s.pa := rfl
@[simp] theorem State.setCarry_stk (s : State) (v : Bool) : (s.setCarry v).stk = s.stk := rfl
@[simp] theorem State.setCarry_subf (s : State) (v : Bool) : (s.setCarry v).subf = s.subf := rfl
@[simp] theorem State.setCarry_tmr (s : State) (v : Bool) : (s.setCarry v).tmr = s.tmr := rfl
@[simp] theorem State.setCarry_ton (s : State) (v : Bool) : (s.setCarry v).ton = s.ton := rfl
@[simp] theorem State.setCarry_tf (s : State) (v : Bool) : (s.setCarry v).tf = s.tf := rfl
@[simp] theorem State.setCarry_phase (s : State) (v : Bool) : (s.setCarry v).phase = s.phase := rfl
@[simp] theorem State.setCarry_ie (s : State) (v : Bool) : (s.setCarry v).ie = s.ie := rfl
@[simp] theorem State.setCarry_exf (s : State) (v : Bool) : (s.setCarry v).exf = s.exf := rfl
@[simp] theorem State.setCarry_halted (s : State) (v : Bool) : (s.setCarry v).halted = s.halted := rfl
@[simp] theorem State.setCarry_snd (s : State) (v : Bool) : (s.setCarry v).snd = s.snd := rfl
@[simp] theorem State.setCarry_ram (s : State) (v : Bool) : (s.setCarry v).ram = s.ram := rfl
@[simp] theorem State.setCarry_rom (s : State) (v : Bool) : (s.setCarry v).rom = s.rom := rfl
@[simp] theorem State.setCarry_era (s : State) (v : Bool) : (s.setCarry v).era = s.era := rfl
@[simp] theorem State.setCarry_draws (s : State) (v : Bool) : (s.setCarry v).draws = s.draws := rfl
@[simp] theorem State.setCarry_pins (s : State) (v : Bool) : (s.setCarry v).pins = s.pins := rfl
@[simp] theorem State.setCarry_env (s : State) (v : Bool) : (s.setCarry v).env = s.env := rfl
@[simp] theorem State.setCarry_chip (s : State) (v : Bool) : (s.setCarry v).chip = s.chip := rfl
@[simp] theorem State.setCarry_cell (s : State) (v : Bool) (a : DataAddr) : (s.setCarry v).cell a = s.cell a := rfl
@[simp] theorem State.setCarry_romByte (s : State) (v : Bool) (p : BitVec 13) : (s.setCarry v).romByte p = s.romByte p := rfl

/-! ### setPc -/

@[simp] theorem State.setPc_acc (s : State) (v : ProgAddr) : (s.setPc v).acc = s.acc := rfl
@[simp] theorem State.setPc_r (s : State) (v : ProgAddr) : (s.setPc v).r = s.r := rfl
@[simp] theorem State.setPc_c (s : State) (v : ProgAddr) : (s.setPc v).c = s.c := rfl
@[simp] theorem State.setPc_pc (s : State) (v : ProgAddr) : (s.setPc v).pc = v := rfl
@[simp] theorem State.setPc_pa (s : State) (v : ProgAddr) : (s.setPc v).pa = s.pa := rfl
@[simp] theorem State.setPc_stk (s : State) (v : ProgAddr) : (s.setPc v).stk = s.stk := rfl
@[simp] theorem State.setPc_subf (s : State) (v : ProgAddr) : (s.setPc v).subf = s.subf := rfl
@[simp] theorem State.setPc_tmr (s : State) (v : ProgAddr) : (s.setPc v).tmr = s.tmr := rfl
@[simp] theorem State.setPc_ton (s : State) (v : ProgAddr) : (s.setPc v).ton = s.ton := rfl
@[simp] theorem State.setPc_tf (s : State) (v : ProgAddr) : (s.setPc v).tf = s.tf := rfl
@[simp] theorem State.setPc_phase (s : State) (v : ProgAddr) : (s.setPc v).phase = s.phase := rfl
@[simp] theorem State.setPc_ie (s : State) (v : ProgAddr) : (s.setPc v).ie = s.ie := rfl
@[simp] theorem State.setPc_exf (s : State) (v : ProgAddr) : (s.setPc v).exf = s.exf := rfl
@[simp] theorem State.setPc_halted (s : State) (v : ProgAddr) : (s.setPc v).halted = s.halted := rfl
@[simp] theorem State.setPc_snd (s : State) (v : ProgAddr) : (s.setPc v).snd = s.snd := rfl
@[simp] theorem State.setPc_ram (s : State) (v : ProgAddr) : (s.setPc v).ram = s.ram := rfl
@[simp] theorem State.setPc_rom (s : State) (v : ProgAddr) : (s.setPc v).rom = s.rom := rfl
@[simp] theorem State.setPc_era (s : State) (v : ProgAddr) : (s.setPc v).era = s.era := rfl
@[simp] theorem State.setPc_draws (s : State) (v : ProgAddr) : (s.setPc v).draws = s.draws := rfl
@[simp] theorem State.setPc_pins (s : State) (v : ProgAddr) : (s.setPc v).pins = s.pins := rfl
@[simp] theorem State.setPc_env (s : State) (v : ProgAddr) : (s.setPc v).env = s.env := rfl
@[simp] theorem State.setPc_chip (s : State) (v : ProgAddr) : (s.setPc v).chip = s.chip := rfl
@[simp] theorem State.setPc_cell (s : State) (v : ProgAddr) (a : DataAddr) : (s.setPc v).cell a = s.cell a := rfl
@[simp] theorem State.setPc_romByte (s : State) (v : ProgAddr) (p : BitVec 13) : (s.setPc v).romByte p = s.romByte p := rfl

/-! ### setPa -/

@[simp] theorem State.setPa_acc (s : State) (v : Nibble) : (s.setPa v).acc = s.acc := rfl
@[simp] theorem State.setPa_r (s : State) (v : Nibble) : (s.setPa v).r = s.r := rfl
@[simp] theorem State.setPa_c (s : State) (v : Nibble) : (s.setPa v).c = s.c := rfl
@[simp] theorem State.setPa_pc (s : State) (v : Nibble) : (s.setPa v).pc = s.pc := rfl
@[simp] theorem State.setPa_pa (s : State) (v : Nibble) : (s.setPa v).pa = v := rfl
@[simp] theorem State.setPa_stk (s : State) (v : Nibble) : (s.setPa v).stk = s.stk := rfl
@[simp] theorem State.setPa_subf (s : State) (v : Nibble) : (s.setPa v).subf = s.subf := rfl
@[simp] theorem State.setPa_tmr (s : State) (v : Nibble) : (s.setPa v).tmr = s.tmr := rfl
@[simp] theorem State.setPa_ton (s : State) (v : Nibble) : (s.setPa v).ton = s.ton := rfl
@[simp] theorem State.setPa_tf (s : State) (v : Nibble) : (s.setPa v).tf = s.tf := rfl
@[simp] theorem State.setPa_phase (s : State) (v : Nibble) : (s.setPa v).phase = s.phase := rfl
@[simp] theorem State.setPa_ie (s : State) (v : Nibble) : (s.setPa v).ie = s.ie := rfl
@[simp] theorem State.setPa_exf (s : State) (v : Nibble) : (s.setPa v).exf = s.exf := rfl
@[simp] theorem State.setPa_halted (s : State) (v : Nibble) : (s.setPa v).halted = s.halted := rfl
@[simp] theorem State.setPa_snd (s : State) (v : Nibble) : (s.setPa v).snd = s.snd := rfl
@[simp] theorem State.setPa_ram (s : State) (v : Nibble) : (s.setPa v).ram = s.ram := rfl
@[simp] theorem State.setPa_rom (s : State) (v : Nibble) : (s.setPa v).rom = s.rom := rfl
@[simp] theorem State.setPa_era (s : State) (v : Nibble) : (s.setPa v).era = s.era := rfl
@[simp] theorem State.setPa_draws (s : State) (v : Nibble) : (s.setPa v).draws = s.draws := rfl
@[simp] theorem State.setPa_pins (s : State) (v : Nibble) : (s.setPa v).pins = s.pins := rfl
@[simp] theorem State.setPa_env (s : State) (v : Nibble) : (s.setPa v).env = s.env := rfl
@[simp] theorem State.setPa_chip (s : State) (v : Nibble) : (s.setPa v).chip = s.chip := rfl
@[simp] theorem State.setPa_cell (s : State) (v : Nibble) (a : DataAddr) : (s.setPa v).cell a = s.cell a := rfl
@[simp] theorem State.setPa_romByte (s : State) (v : Nibble) (p : BitVec 13) : (s.setPa v).romByte p = s.romByte p := rfl

/-! ### setStk -/

@[simp] theorem State.setStk_acc (s : State) (v : Stack) : (s.setStk v).acc = s.acc := rfl
@[simp] theorem State.setStk_r (s : State) (v : Stack) : (s.setStk v).r = s.r := rfl
@[simp] theorem State.setStk_c (s : State) (v : Stack) : (s.setStk v).c = s.c := rfl
@[simp] theorem State.setStk_pc (s : State) (v : Stack) : (s.setStk v).pc = s.pc := rfl
@[simp] theorem State.setStk_pa (s : State) (v : Stack) : (s.setStk v).pa = s.pa := rfl
@[simp] theorem State.setStk_stk (s : State) (v : Stack) : (s.setStk v).stk = v := rfl
@[simp] theorem State.setStk_subf (s : State) (v : Stack) : (s.setStk v).subf = s.subf := rfl
@[simp] theorem State.setStk_tmr (s : State) (v : Stack) : (s.setStk v).tmr = s.tmr := rfl
@[simp] theorem State.setStk_ton (s : State) (v : Stack) : (s.setStk v).ton = s.ton := rfl
@[simp] theorem State.setStk_tf (s : State) (v : Stack) : (s.setStk v).tf = s.tf := rfl
@[simp] theorem State.setStk_phase (s : State) (v : Stack) : (s.setStk v).phase = s.phase := rfl
@[simp] theorem State.setStk_ie (s : State) (v : Stack) : (s.setStk v).ie = s.ie := rfl
@[simp] theorem State.setStk_exf (s : State) (v : Stack) : (s.setStk v).exf = s.exf := rfl
@[simp] theorem State.setStk_halted (s : State) (v : Stack) : (s.setStk v).halted = s.halted := rfl
@[simp] theorem State.setStk_snd (s : State) (v : Stack) : (s.setStk v).snd = s.snd := rfl
@[simp] theorem State.setStk_ram (s : State) (v : Stack) : (s.setStk v).ram = s.ram := rfl
@[simp] theorem State.setStk_rom (s : State) (v : Stack) : (s.setStk v).rom = s.rom := rfl
@[simp] theorem State.setStk_era (s : State) (v : Stack) : (s.setStk v).era = s.era := rfl
@[simp] theorem State.setStk_draws (s : State) (v : Stack) : (s.setStk v).draws = s.draws := rfl
@[simp] theorem State.setStk_pins (s : State) (v : Stack) : (s.setStk v).pins = s.pins := rfl
@[simp] theorem State.setStk_env (s : State) (v : Stack) : (s.setStk v).env = s.env := rfl
@[simp] theorem State.setStk_chip (s : State) (v : Stack) : (s.setStk v).chip = s.chip := rfl
@[simp] theorem State.setStk_cell (s : State) (v : Stack) (a : DataAddr) : (s.setStk v).cell a = s.cell a := rfl
@[simp] theorem State.setStk_romByte (s : State) (v : Stack) (p : BitVec 13) : (s.setStk v).romByte p = s.romByte p := rfl

/-! ### setSubf -/

@[simp] theorem State.setSubf_acc (s : State) (v : Bool) : (s.setSubf v).acc = s.acc := rfl
@[simp] theorem State.setSubf_r (s : State) (v : Bool) : (s.setSubf v).r = s.r := rfl
@[simp] theorem State.setSubf_c (s : State) (v : Bool) : (s.setSubf v).c = s.c := rfl
@[simp] theorem State.setSubf_pc (s : State) (v : Bool) : (s.setSubf v).pc = s.pc := rfl
@[simp] theorem State.setSubf_pa (s : State) (v : Bool) : (s.setSubf v).pa = s.pa := rfl
@[simp] theorem State.setSubf_stk (s : State) (v : Bool) : (s.setSubf v).stk = s.stk := rfl
@[simp] theorem State.setSubf_subf (s : State) (v : Bool) : (s.setSubf v).subf = v := rfl
@[simp] theorem State.setSubf_tmr (s : State) (v : Bool) : (s.setSubf v).tmr = s.tmr := rfl
@[simp] theorem State.setSubf_ton (s : State) (v : Bool) : (s.setSubf v).ton = s.ton := rfl
@[simp] theorem State.setSubf_tf (s : State) (v : Bool) : (s.setSubf v).tf = s.tf := rfl
@[simp] theorem State.setSubf_phase (s : State) (v : Bool) : (s.setSubf v).phase = s.phase := rfl
@[simp] theorem State.setSubf_ie (s : State) (v : Bool) : (s.setSubf v).ie = s.ie := rfl
@[simp] theorem State.setSubf_exf (s : State) (v : Bool) : (s.setSubf v).exf = s.exf := rfl
@[simp] theorem State.setSubf_halted (s : State) (v : Bool) : (s.setSubf v).halted = s.halted := rfl
@[simp] theorem State.setSubf_snd (s : State) (v : Bool) : (s.setSubf v).snd = s.snd := rfl
@[simp] theorem State.setSubf_ram (s : State) (v : Bool) : (s.setSubf v).ram = s.ram := rfl
@[simp] theorem State.setSubf_rom (s : State) (v : Bool) : (s.setSubf v).rom = s.rom := rfl
@[simp] theorem State.setSubf_era (s : State) (v : Bool) : (s.setSubf v).era = s.era := rfl
@[simp] theorem State.setSubf_draws (s : State) (v : Bool) : (s.setSubf v).draws = s.draws := rfl
@[simp] theorem State.setSubf_pins (s : State) (v : Bool) : (s.setSubf v).pins = s.pins := rfl
@[simp] theorem State.setSubf_env (s : State) (v : Bool) : (s.setSubf v).env = s.env := rfl
@[simp] theorem State.setSubf_chip (s : State) (v : Bool) : (s.setSubf v).chip = s.chip := rfl
@[simp] theorem State.setSubf_cell (s : State) (v : Bool) (a : DataAddr) : (s.setSubf v).cell a = s.cell a := rfl
@[simp] theorem State.setSubf_romByte (s : State) (v : Bool) (p : BitVec 13) : (s.setSubf v).romByte p = s.romByte p := rfl

/-! ### setTmr -/

@[simp] theorem State.setTmr_acc (s : State) (v : Byte) : (s.setTmr v).acc = s.acc := rfl
@[simp] theorem State.setTmr_r (s : State) (v : Byte) : (s.setTmr v).r = s.r := rfl
@[simp] theorem State.setTmr_c (s : State) (v : Byte) : (s.setTmr v).c = s.c := rfl
@[simp] theorem State.setTmr_pc (s : State) (v : Byte) : (s.setTmr v).pc = s.pc := rfl
@[simp] theorem State.setTmr_pa (s : State) (v : Byte) : (s.setTmr v).pa = s.pa := rfl
@[simp] theorem State.setTmr_stk (s : State) (v : Byte) : (s.setTmr v).stk = s.stk := rfl
@[simp] theorem State.setTmr_subf (s : State) (v : Byte) : (s.setTmr v).subf = s.subf := rfl
@[simp] theorem State.setTmr_tmr (s : State) (v : Byte) : (s.setTmr v).tmr = v := rfl
@[simp] theorem State.setTmr_ton (s : State) (v : Byte) : (s.setTmr v).ton = s.ton := rfl
@[simp] theorem State.setTmr_tf (s : State) (v : Byte) : (s.setTmr v).tf = s.tf := rfl
@[simp] theorem State.setTmr_phase (s : State) (v : Byte) : (s.setTmr v).phase = s.phase := rfl
@[simp] theorem State.setTmr_ie (s : State) (v : Byte) : (s.setTmr v).ie = s.ie := rfl
@[simp] theorem State.setTmr_exf (s : State) (v : Byte) : (s.setTmr v).exf = s.exf := rfl
@[simp] theorem State.setTmr_halted (s : State) (v : Byte) : (s.setTmr v).halted = s.halted := rfl
@[simp] theorem State.setTmr_snd (s : State) (v : Byte) : (s.setTmr v).snd = s.snd := rfl
@[simp] theorem State.setTmr_ram (s : State) (v : Byte) : (s.setTmr v).ram = s.ram := rfl
@[simp] theorem State.setTmr_rom (s : State) (v : Byte) : (s.setTmr v).rom = s.rom := rfl
@[simp] theorem State.setTmr_era (s : State) (v : Byte) : (s.setTmr v).era = s.era := rfl
@[simp] theorem State.setTmr_draws (s : State) (v : Byte) : (s.setTmr v).draws = s.draws := rfl
@[simp] theorem State.setTmr_pins (s : State) (v : Byte) : (s.setTmr v).pins = s.pins := rfl
@[simp] theorem State.setTmr_env (s : State) (v : Byte) : (s.setTmr v).env = s.env := rfl
@[simp] theorem State.setTmr_chip (s : State) (v : Byte) : (s.setTmr v).chip = s.chip := rfl
@[simp] theorem State.setTmr_cell (s : State) (v : Byte) (a : DataAddr) : (s.setTmr v).cell a = s.cell a := rfl
@[simp] theorem State.setTmr_romByte (s : State) (v : Byte) (p : BitVec 13) : (s.setTmr v).romByte p = s.romByte p := rfl

/-! ### setTon -/

@[simp] theorem State.setTon_acc (s : State) (v : Bool) : (s.setTon v).acc = s.acc := rfl
@[simp] theorem State.setTon_r (s : State) (v : Bool) : (s.setTon v).r = s.r := rfl
@[simp] theorem State.setTon_c (s : State) (v : Bool) : (s.setTon v).c = s.c := rfl
@[simp] theorem State.setTon_pc (s : State) (v : Bool) : (s.setTon v).pc = s.pc := rfl
@[simp] theorem State.setTon_pa (s : State) (v : Bool) : (s.setTon v).pa = s.pa := rfl
@[simp] theorem State.setTon_stk (s : State) (v : Bool) : (s.setTon v).stk = s.stk := rfl
@[simp] theorem State.setTon_subf (s : State) (v : Bool) : (s.setTon v).subf = s.subf := rfl
@[simp] theorem State.setTon_tmr (s : State) (v : Bool) : (s.setTon v).tmr = s.tmr := rfl
@[simp] theorem State.setTon_ton (s : State) (v : Bool) : (s.setTon v).ton = v := rfl
@[simp] theorem State.setTon_tf (s : State) (v : Bool) : (s.setTon v).tf = s.tf := rfl
@[simp] theorem State.setTon_phase (s : State) (v : Bool) : (s.setTon v).phase = s.phase := rfl
@[simp] theorem State.setTon_ie (s : State) (v : Bool) : (s.setTon v).ie = s.ie := rfl
@[simp] theorem State.setTon_exf (s : State) (v : Bool) : (s.setTon v).exf = s.exf := rfl
@[simp] theorem State.setTon_halted (s : State) (v : Bool) : (s.setTon v).halted = s.halted := rfl
@[simp] theorem State.setTon_snd (s : State) (v : Bool) : (s.setTon v).snd = s.snd := rfl
@[simp] theorem State.setTon_ram (s : State) (v : Bool) : (s.setTon v).ram = s.ram := rfl
@[simp] theorem State.setTon_rom (s : State) (v : Bool) : (s.setTon v).rom = s.rom := rfl
@[simp] theorem State.setTon_era (s : State) (v : Bool) : (s.setTon v).era = s.era := rfl
@[simp] theorem State.setTon_draws (s : State) (v : Bool) : (s.setTon v).draws = s.draws := rfl
@[simp] theorem State.setTon_pins (s : State) (v : Bool) : (s.setTon v).pins = s.pins := rfl
@[simp] theorem State.setTon_env (s : State) (v : Bool) : (s.setTon v).env = s.env := rfl
@[simp] theorem State.setTon_chip (s : State) (v : Bool) : (s.setTon v).chip = s.chip := rfl
@[simp] theorem State.setTon_cell (s : State) (v : Bool) (a : DataAddr) : (s.setTon v).cell a = s.cell a := rfl
@[simp] theorem State.setTon_romByte (s : State) (v : Bool) (p : BitVec 13) : (s.setTon v).romByte p = s.romByte p := rfl

/-! ### setTf -/

@[simp] theorem State.setTf_acc (s : State) (v : Bool) : (s.setTf v).acc = s.acc := rfl
@[simp] theorem State.setTf_r (s : State) (v : Bool) : (s.setTf v).r = s.r := rfl
@[simp] theorem State.setTf_c (s : State) (v : Bool) : (s.setTf v).c = s.c := rfl
@[simp] theorem State.setTf_pc (s : State) (v : Bool) : (s.setTf v).pc = s.pc := rfl
@[simp] theorem State.setTf_pa (s : State) (v : Bool) : (s.setTf v).pa = s.pa := rfl
@[simp] theorem State.setTf_stk (s : State) (v : Bool) : (s.setTf v).stk = s.stk := rfl
@[simp] theorem State.setTf_subf (s : State) (v : Bool) : (s.setTf v).subf = s.subf := rfl
@[simp] theorem State.setTf_tmr (s : State) (v : Bool) : (s.setTf v).tmr = s.tmr := rfl
@[simp] theorem State.setTf_ton (s : State) (v : Bool) : (s.setTf v).ton = s.ton := rfl
@[simp] theorem State.setTf_tf (s : State) (v : Bool) : (s.setTf v).tf = v := rfl
@[simp] theorem State.setTf_phase (s : State) (v : Bool) : (s.setTf v).phase = s.phase := rfl
@[simp] theorem State.setTf_ie (s : State) (v : Bool) : (s.setTf v).ie = s.ie := rfl
@[simp] theorem State.setTf_exf (s : State) (v : Bool) : (s.setTf v).exf = s.exf := rfl
@[simp] theorem State.setTf_halted (s : State) (v : Bool) : (s.setTf v).halted = s.halted := rfl
@[simp] theorem State.setTf_snd (s : State) (v : Bool) : (s.setTf v).snd = s.snd := rfl
@[simp] theorem State.setTf_ram (s : State) (v : Bool) : (s.setTf v).ram = s.ram := rfl
@[simp] theorem State.setTf_rom (s : State) (v : Bool) : (s.setTf v).rom = s.rom := rfl
@[simp] theorem State.setTf_era (s : State) (v : Bool) : (s.setTf v).era = s.era := rfl
@[simp] theorem State.setTf_draws (s : State) (v : Bool) : (s.setTf v).draws = s.draws := rfl
@[simp] theorem State.setTf_pins (s : State) (v : Bool) : (s.setTf v).pins = s.pins := rfl
@[simp] theorem State.setTf_env (s : State) (v : Bool) : (s.setTf v).env = s.env := rfl
@[simp] theorem State.setTf_chip (s : State) (v : Bool) : (s.setTf v).chip = s.chip := rfl
@[simp] theorem State.setTf_cell (s : State) (v : Bool) (a : DataAddr) : (s.setTf v).cell a = s.cell a := rfl
@[simp] theorem State.setTf_romByte (s : State) (v : Bool) (p : BitVec 13) : (s.setTf v).romByte p = s.romByte p := rfl

/-! ### setPhase -/

@[simp] theorem State.setPhase_acc (s : State) (v : Nat) : (s.setPhase v).acc = s.acc := rfl
@[simp] theorem State.setPhase_r (s : State) (v : Nat) : (s.setPhase v).r = s.r := rfl
@[simp] theorem State.setPhase_c (s : State) (v : Nat) : (s.setPhase v).c = s.c := rfl
@[simp] theorem State.setPhase_pc (s : State) (v : Nat) : (s.setPhase v).pc = s.pc := rfl
@[simp] theorem State.setPhase_pa (s : State) (v : Nat) : (s.setPhase v).pa = s.pa := rfl
@[simp] theorem State.setPhase_stk (s : State) (v : Nat) : (s.setPhase v).stk = s.stk := rfl
@[simp] theorem State.setPhase_subf (s : State) (v : Nat) : (s.setPhase v).subf = s.subf := rfl
@[simp] theorem State.setPhase_tmr (s : State) (v : Nat) : (s.setPhase v).tmr = s.tmr := rfl
@[simp] theorem State.setPhase_ton (s : State) (v : Nat) : (s.setPhase v).ton = s.ton := rfl
@[simp] theorem State.setPhase_tf (s : State) (v : Nat) : (s.setPhase v).tf = s.tf := rfl
@[simp] theorem State.setPhase_phase (s : State) (v : Nat) : (s.setPhase v).phase = v := rfl
@[simp] theorem State.setPhase_ie (s : State) (v : Nat) : (s.setPhase v).ie = s.ie := rfl
@[simp] theorem State.setPhase_exf (s : State) (v : Nat) : (s.setPhase v).exf = s.exf := rfl
@[simp] theorem State.setPhase_halted (s : State) (v : Nat) : (s.setPhase v).halted = s.halted := rfl
@[simp] theorem State.setPhase_snd (s : State) (v : Nat) : (s.setPhase v).snd = s.snd := rfl
@[simp] theorem State.setPhase_ram (s : State) (v : Nat) : (s.setPhase v).ram = s.ram := rfl
@[simp] theorem State.setPhase_rom (s : State) (v : Nat) : (s.setPhase v).rom = s.rom := rfl
@[simp] theorem State.setPhase_era (s : State) (v : Nat) : (s.setPhase v).era = s.era := rfl
@[simp] theorem State.setPhase_draws (s : State) (v : Nat) : (s.setPhase v).draws = s.draws := rfl
@[simp] theorem State.setPhase_pins (s : State) (v : Nat) : (s.setPhase v).pins = s.pins := rfl
@[simp] theorem State.setPhase_env (s : State) (v : Nat) : (s.setPhase v).env = s.env := rfl
@[simp] theorem State.setPhase_chip (s : State) (v : Nat) : (s.setPhase v).chip = s.chip := rfl
@[simp] theorem State.setPhase_cell (s : State) (v : Nat) (a : DataAddr) : (s.setPhase v).cell a = s.cell a := rfl
@[simp] theorem State.setPhase_romByte (s : State) (v : Nat) (p : BitVec 13) : (s.setPhase v).romByte p = s.romByte p := rfl

/-! ### setIe -/

@[simp] theorem State.setIe_acc (s : State) (v : Bool) : (s.setIe v).acc = s.acc := rfl
@[simp] theorem State.setIe_r (s : State) (v : Bool) : (s.setIe v).r = s.r := rfl
@[simp] theorem State.setIe_c (s : State) (v : Bool) : (s.setIe v).c = s.c := rfl
@[simp] theorem State.setIe_pc (s : State) (v : Bool) : (s.setIe v).pc = s.pc := rfl
@[simp] theorem State.setIe_pa (s : State) (v : Bool) : (s.setIe v).pa = s.pa := rfl
@[simp] theorem State.setIe_stk (s : State) (v : Bool) : (s.setIe v).stk = s.stk := rfl
@[simp] theorem State.setIe_subf (s : State) (v : Bool) : (s.setIe v).subf = s.subf := rfl
@[simp] theorem State.setIe_tmr (s : State) (v : Bool) : (s.setIe v).tmr = s.tmr := rfl
@[simp] theorem State.setIe_ton (s : State) (v : Bool) : (s.setIe v).ton = s.ton := rfl
@[simp] theorem State.setIe_tf (s : State) (v : Bool) : (s.setIe v).tf = s.tf := rfl
@[simp] theorem State.setIe_phase (s : State) (v : Bool) : (s.setIe v).phase = s.phase := rfl
@[simp] theorem State.setIe_ie (s : State) (v : Bool) : (s.setIe v).ie = v := rfl
@[simp] theorem State.setIe_exf (s : State) (v : Bool) : (s.setIe v).exf = s.exf := rfl
@[simp] theorem State.setIe_halted (s : State) (v : Bool) : (s.setIe v).halted = s.halted := rfl
@[simp] theorem State.setIe_snd (s : State) (v : Bool) : (s.setIe v).snd = s.snd := rfl
@[simp] theorem State.setIe_ram (s : State) (v : Bool) : (s.setIe v).ram = s.ram := rfl
@[simp] theorem State.setIe_rom (s : State) (v : Bool) : (s.setIe v).rom = s.rom := rfl
@[simp] theorem State.setIe_era (s : State) (v : Bool) : (s.setIe v).era = s.era := rfl
@[simp] theorem State.setIe_draws (s : State) (v : Bool) : (s.setIe v).draws = s.draws := rfl
@[simp] theorem State.setIe_pins (s : State) (v : Bool) : (s.setIe v).pins = s.pins := rfl
@[simp] theorem State.setIe_env (s : State) (v : Bool) : (s.setIe v).env = s.env := rfl
@[simp] theorem State.setIe_chip (s : State) (v : Bool) : (s.setIe v).chip = s.chip := rfl
@[simp] theorem State.setIe_cell (s : State) (v : Bool) (a : DataAddr) : (s.setIe v).cell a = s.cell a := rfl
@[simp] theorem State.setIe_romByte (s : State) (v : Bool) (p : BitVec 13) : (s.setIe v).romByte p = s.romByte p := rfl

/-! ### setExf -/

@[simp] theorem State.setExf_acc (s : State) (v : Bool) : (s.setExf v).acc = s.acc := rfl
@[simp] theorem State.setExf_r (s : State) (v : Bool) : (s.setExf v).r = s.r := rfl
@[simp] theorem State.setExf_c (s : State) (v : Bool) : (s.setExf v).c = s.c := rfl
@[simp] theorem State.setExf_pc (s : State) (v : Bool) : (s.setExf v).pc = s.pc := rfl
@[simp] theorem State.setExf_pa (s : State) (v : Bool) : (s.setExf v).pa = s.pa := rfl
@[simp] theorem State.setExf_stk (s : State) (v : Bool) : (s.setExf v).stk = s.stk := rfl
@[simp] theorem State.setExf_subf (s : State) (v : Bool) : (s.setExf v).subf = s.subf := rfl
@[simp] theorem State.setExf_tmr (s : State) (v : Bool) : (s.setExf v).tmr = s.tmr := rfl
@[simp] theorem State.setExf_ton (s : State) (v : Bool) : (s.setExf v).ton = s.ton := rfl
@[simp] theorem State.setExf_tf (s : State) (v : Bool) : (s.setExf v).tf = s.tf := rfl
@[simp] theorem State.setExf_phase (s : State) (v : Bool) : (s.setExf v).phase = s.phase := rfl
@[simp] theorem State.setExf_ie (s : State) (v : Bool) : (s.setExf v).ie = s.ie := rfl
@[simp] theorem State.setExf_exf (s : State) (v : Bool) : (s.setExf v).exf = v := rfl
@[simp] theorem State.setExf_halted (s : State) (v : Bool) : (s.setExf v).halted = s.halted := rfl
@[simp] theorem State.setExf_snd (s : State) (v : Bool) : (s.setExf v).snd = s.snd := rfl
@[simp] theorem State.setExf_ram (s : State) (v : Bool) : (s.setExf v).ram = s.ram := rfl
@[simp] theorem State.setExf_rom (s : State) (v : Bool) : (s.setExf v).rom = s.rom := rfl
@[simp] theorem State.setExf_era (s : State) (v : Bool) : (s.setExf v).era = s.era := rfl
@[simp] theorem State.setExf_draws (s : State) (v : Bool) : (s.setExf v).draws = s.draws := rfl
@[simp] theorem State.setExf_pins (s : State) (v : Bool) : (s.setExf v).pins = s.pins := rfl
@[simp] theorem State.setExf_env (s : State) (v : Bool) : (s.setExf v).env = s.env := rfl
@[simp] theorem State.setExf_chip (s : State) (v : Bool) : (s.setExf v).chip = s.chip := rfl
@[simp] theorem State.setExf_cell (s : State) (v : Bool) (a : DataAddr) : (s.setExf v).cell a = s.cell a := rfl
@[simp] theorem State.setExf_romByte (s : State) (v : Bool) (p : BitVec 13) : (s.setExf v).romByte p = s.romByte p := rfl

/-! ### setHalted -/

@[simp] theorem State.setHalted_acc (s : State) (v : Bool) : (s.setHalted v).acc = s.acc := rfl
@[simp] theorem State.setHalted_r (s : State) (v : Bool) : (s.setHalted v).r = s.r := rfl
@[simp] theorem State.setHalted_c (s : State) (v : Bool) : (s.setHalted v).c = s.c := rfl
@[simp] theorem State.setHalted_pc (s : State) (v : Bool) : (s.setHalted v).pc = s.pc := rfl
@[simp] theorem State.setHalted_pa (s : State) (v : Bool) : (s.setHalted v).pa = s.pa := rfl
@[simp] theorem State.setHalted_stk (s : State) (v : Bool) : (s.setHalted v).stk = s.stk := rfl
@[simp] theorem State.setHalted_subf (s : State) (v : Bool) : (s.setHalted v).subf = s.subf := rfl
@[simp] theorem State.setHalted_tmr (s : State) (v : Bool) : (s.setHalted v).tmr = s.tmr := rfl
@[simp] theorem State.setHalted_ton (s : State) (v : Bool) : (s.setHalted v).ton = s.ton := rfl
@[simp] theorem State.setHalted_tf (s : State) (v : Bool) : (s.setHalted v).tf = s.tf := rfl
@[simp] theorem State.setHalted_phase (s : State) (v : Bool) : (s.setHalted v).phase = s.phase := rfl
@[simp] theorem State.setHalted_ie (s : State) (v : Bool) : (s.setHalted v).ie = s.ie := rfl
@[simp] theorem State.setHalted_exf (s : State) (v : Bool) : (s.setHalted v).exf = s.exf := rfl
@[simp] theorem State.setHalted_halted (s : State) (v : Bool) : (s.setHalted v).halted = v := rfl
@[simp] theorem State.setHalted_snd (s : State) (v : Bool) : (s.setHalted v).snd = s.snd := rfl
@[simp] theorem State.setHalted_ram (s : State) (v : Bool) : (s.setHalted v).ram = s.ram := rfl
@[simp] theorem State.setHalted_rom (s : State) (v : Bool) : (s.setHalted v).rom = s.rom := rfl
@[simp] theorem State.setHalted_era (s : State) (v : Bool) : (s.setHalted v).era = s.era := rfl
@[simp] theorem State.setHalted_draws (s : State) (v : Bool) : (s.setHalted v).draws = s.draws := rfl
@[simp] theorem State.setHalted_pins (s : State) (v : Bool) : (s.setHalted v).pins = s.pins := rfl
@[simp] theorem State.setHalted_env (s : State) (v : Bool) : (s.setHalted v).env = s.env := rfl
@[simp] theorem State.setHalted_chip (s : State) (v : Bool) : (s.setHalted v).chip = s.chip := rfl
@[simp] theorem State.setHalted_cell (s : State) (v : Bool) (a : DataAddr) : (s.setHalted v).cell a = s.cell a := rfl
@[simp] theorem State.setHalted_romByte (s : State) (v : Bool) (p : BitVec 13) : (s.setHalted v).romByte p = s.romByte p := rfl

/-! ### setSnd -/

@[simp] theorem State.setSnd_acc (s : State) (v : Sound) : (s.setSnd v).acc = s.acc := rfl
@[simp] theorem State.setSnd_r (s : State) (v : Sound) : (s.setSnd v).r = s.r := rfl
@[simp] theorem State.setSnd_c (s : State) (v : Sound) : (s.setSnd v).c = s.c := rfl
@[simp] theorem State.setSnd_pc (s : State) (v : Sound) : (s.setSnd v).pc = s.pc := rfl
@[simp] theorem State.setSnd_pa (s : State) (v : Sound) : (s.setSnd v).pa = s.pa := rfl
@[simp] theorem State.setSnd_stk (s : State) (v : Sound) : (s.setSnd v).stk = s.stk := rfl
@[simp] theorem State.setSnd_subf (s : State) (v : Sound) : (s.setSnd v).subf = s.subf := rfl
@[simp] theorem State.setSnd_tmr (s : State) (v : Sound) : (s.setSnd v).tmr = s.tmr := rfl
@[simp] theorem State.setSnd_ton (s : State) (v : Sound) : (s.setSnd v).ton = s.ton := rfl
@[simp] theorem State.setSnd_tf (s : State) (v : Sound) : (s.setSnd v).tf = s.tf := rfl
@[simp] theorem State.setSnd_phase (s : State) (v : Sound) : (s.setSnd v).phase = s.phase := rfl
@[simp] theorem State.setSnd_ie (s : State) (v : Sound) : (s.setSnd v).ie = s.ie := rfl
@[simp] theorem State.setSnd_exf (s : State) (v : Sound) : (s.setSnd v).exf = s.exf := rfl
@[simp] theorem State.setSnd_halted (s : State) (v : Sound) : (s.setSnd v).halted = s.halted := rfl
@[simp] theorem State.setSnd_snd (s : State) (v : Sound) : (s.setSnd v).snd = v := rfl
@[simp] theorem State.setSnd_ram (s : State) (v : Sound) : (s.setSnd v).ram = s.ram := rfl
@[simp] theorem State.setSnd_rom (s : State) (v : Sound) : (s.setSnd v).rom = s.rom := rfl
@[simp] theorem State.setSnd_era (s : State) (v : Sound) : (s.setSnd v).era = s.era := rfl
@[simp] theorem State.setSnd_draws (s : State) (v : Sound) : (s.setSnd v).draws = s.draws := rfl
@[simp] theorem State.setSnd_pins (s : State) (v : Sound) : (s.setSnd v).pins = s.pins := rfl
@[simp] theorem State.setSnd_env (s : State) (v : Sound) : (s.setSnd v).env = s.env := rfl
@[simp] theorem State.setSnd_chip (s : State) (v : Sound) : (s.setSnd v).chip = s.chip := rfl
@[simp] theorem State.setSnd_cell (s : State) (v : Sound) (a : DataAddr) : (s.setSnd v).cell a = s.cell a := rfl
@[simp] theorem State.setSnd_romByte (s : State) (v : Sound) (p : BitVec 13) : (s.setSnd v).romByte p = s.romByte p := rfl

/-! ### setRam -/

@[simp] theorem State.setRam_acc (s : State) (v : List (Nat × BitVec 4)) : (s.setRam v).acc = s.acc := rfl
@[simp] theorem State.setRam_r (s : State) (v : List (Nat × BitVec 4)) : (s.setRam v).r = s.r := rfl
@[simp] theorem State.setRam_c (s : State) (v : List (Nat × BitVec 4)) : (s.setRam v).c = s.c := rfl
@[simp] theorem State.setRam_pc (s : State) (v : List (Nat × BitVec 4)) : (s.setRam v).pc = s.pc := rfl
@[simp] theorem State.setRam_pa (s : State) (v : List (Nat × BitVec 4)) : (s.setRam v).pa = s.pa := rfl
@[simp] theorem State.setRam_stk (s : State) (v : List (Nat × BitVec 4)) : (s.setRam v).stk = s.stk := rfl
@[simp] theorem State.setRam_subf (s : State) (v : List (Nat × BitVec 4)) : (s.setRam v).subf = s.subf := rfl
@[simp] theorem State.setRam_tmr (s : State) (v : List (Nat × BitVec 4)) : (s.setRam v).tmr = s.tmr := rfl
@[simp] theorem State.setRam_ton (s : State) (v : List (Nat × BitVec 4)) : (s.setRam v).ton = s.ton := rfl
@[simp] theorem State.setRam_tf (s : State) (v : List (Nat × BitVec 4)) : (s.setRam v).tf = s.tf := rfl
@[simp] theorem State.setRam_phase (s : State) (v : List (Nat × BitVec 4)) : (s.setRam v).phase = s.phase := rfl
@[simp] theorem State.setRam_ie (s : State) (v : List (Nat × BitVec 4)) : (s.setRam v).ie = s.ie := rfl
@[simp] theorem State.setRam_exf (s : State) (v : List (Nat × BitVec 4)) : (s.setRam v).exf = s.exf := rfl
@[simp] theorem State.setRam_halted (s : State) (v : List (Nat × BitVec 4)) : (s.setRam v).halted = s.halted := rfl
@[simp] theorem State.setRam_snd (s : State) (v : List (Nat × BitVec 4)) : (s.setRam v).snd = s.snd := rfl
@[simp] theorem State.setRam_ram (s : State) (v : List (Nat × BitVec 4)) : (s.setRam v).ram = v := rfl
@[simp] theorem State.setRam_rom (s : State) (v : List (Nat × BitVec 4)) : (s.setRam v).rom = s.rom := rfl
@[simp] theorem State.setRam_era (s : State) (v : List (Nat × BitVec 4)) : (s.setRam v).era = s.era := rfl
@[simp] theorem State.setRam_draws (s : State) (v : List (Nat × BitVec 4)) : (s.setRam v).draws = s.draws := rfl
@[simp] theorem State.setRam_pins (s : State) (v : List (Nat × BitVec 4)) : (s.setRam v).pins = s.pins := rfl
@[simp] theorem State.setRam_env (s : State) (v : List (Nat × BitVec 4)) : (s.setRam v).env = s.env := rfl
@[simp] theorem State.setRam_chip (s : State) (v : List (Nat × BitVec 4)) : (s.setRam v).chip = s.chip := rfl
@[simp] theorem State.setRam_romByte (s : State) (v : List (Nat × BitVec 4)) (p : BitVec 13) : (s.setRam v).romByte p = s.romByte p := rfl

/-! ### setRom -/

@[simp] theorem State.setRom_acc (s : State) (v : List Host.Cell) : (s.setRom v).acc = s.acc := rfl
@[simp] theorem State.setRom_r (s : State) (v : List Host.Cell) : (s.setRom v).r = s.r := rfl
@[simp] theorem State.setRom_c (s : State) (v : List Host.Cell) : (s.setRom v).c = s.c := rfl
@[simp] theorem State.setRom_pc (s : State) (v : List Host.Cell) : (s.setRom v).pc = s.pc := rfl
@[simp] theorem State.setRom_pa (s : State) (v : List Host.Cell) : (s.setRom v).pa = s.pa := rfl
@[simp] theorem State.setRom_stk (s : State) (v : List Host.Cell) : (s.setRom v).stk = s.stk := rfl
@[simp] theorem State.setRom_subf (s : State) (v : List Host.Cell) : (s.setRom v).subf = s.subf := rfl
@[simp] theorem State.setRom_tmr (s : State) (v : List Host.Cell) : (s.setRom v).tmr = s.tmr := rfl
@[simp] theorem State.setRom_ton (s : State) (v : List Host.Cell) : (s.setRom v).ton = s.ton := rfl
@[simp] theorem State.setRom_tf (s : State) (v : List Host.Cell) : (s.setRom v).tf = s.tf := rfl
@[simp] theorem State.setRom_phase (s : State) (v : List Host.Cell) : (s.setRom v).phase = s.phase := rfl
@[simp] theorem State.setRom_ie (s : State) (v : List Host.Cell) : (s.setRom v).ie = s.ie := rfl
@[simp] theorem State.setRom_exf (s : State) (v : List Host.Cell) : (s.setRom v).exf = s.exf := rfl
@[simp] theorem State.setRom_halted (s : State) (v : List Host.Cell) : (s.setRom v).halted = s.halted := rfl
@[simp] theorem State.setRom_snd (s : State) (v : List Host.Cell) : (s.setRom v).snd = s.snd := rfl
@[simp] theorem State.setRom_ram (s : State) (v : List Host.Cell) : (s.setRom v).ram = s.ram := rfl
@[simp] theorem State.setRom_rom (s : State) (v : List Host.Cell) : (s.setRom v).rom = v := rfl
@[simp] theorem State.setRom_era (s : State) (v : List Host.Cell) : (s.setRom v).era = s.era := rfl
@[simp] theorem State.setRom_draws (s : State) (v : List Host.Cell) : (s.setRom v).draws = s.draws := rfl
@[simp] theorem State.setRom_pins (s : State) (v : List Host.Cell) : (s.setRom v).pins = s.pins := rfl
@[simp] theorem State.setRom_env (s : State) (v : List Host.Cell) : (s.setRom v).env = s.env := rfl
@[simp] theorem State.setRom_chip (s : State) (v : List Host.Cell) : (s.setRom v).chip = s.chip := rfl
@[simp] theorem State.setRom_cell (s : State) (v : List Host.Cell) (a : DataAddr) : (s.setRom v).cell a = s.cell a := rfl

/-! ### setDraws -/

@[simp] theorem State.setDraws_acc (s : State) (v : Nat) : (s.setDraws v).acc = s.acc := rfl
@[simp] theorem State.setDraws_r (s : State) (v : Nat) : (s.setDraws v).r = s.r := rfl
@[simp] theorem State.setDraws_c (s : State) (v : Nat) : (s.setDraws v).c = s.c := rfl
@[simp] theorem State.setDraws_pc (s : State) (v : Nat) : (s.setDraws v).pc = s.pc := rfl
@[simp] theorem State.setDraws_pa (s : State) (v : Nat) : (s.setDraws v).pa = s.pa := rfl
@[simp] theorem State.setDraws_stk (s : State) (v : Nat) : (s.setDraws v).stk = s.stk := rfl
@[simp] theorem State.setDraws_subf (s : State) (v : Nat) : (s.setDraws v).subf = s.subf := rfl
@[simp] theorem State.setDraws_tmr (s : State) (v : Nat) : (s.setDraws v).tmr = s.tmr := rfl
@[simp] theorem State.setDraws_ton (s : State) (v : Nat) : (s.setDraws v).ton = s.ton := rfl
@[simp] theorem State.setDraws_tf (s : State) (v : Nat) : (s.setDraws v).tf = s.tf := rfl
@[simp] theorem State.setDraws_phase (s : State) (v : Nat) : (s.setDraws v).phase = s.phase := rfl
@[simp] theorem State.setDraws_ie (s : State) (v : Nat) : (s.setDraws v).ie = s.ie := rfl
@[simp] theorem State.setDraws_exf (s : State) (v : Nat) : (s.setDraws v).exf = s.exf := rfl
@[simp] theorem State.setDraws_halted (s : State) (v : Nat) : (s.setDraws v).halted = s.halted := rfl
@[simp] theorem State.setDraws_snd (s : State) (v : Nat) : (s.setDraws v).snd = s.snd := rfl
@[simp] theorem State.setDraws_ram (s : State) (v : Nat) : (s.setDraws v).ram = s.ram := rfl
@[simp] theorem State.setDraws_rom (s : State) (v : Nat) : (s.setDraws v).rom = s.rom := rfl
@[simp] theorem State.setDraws_era (s : State) (v : Nat) : (s.setDraws v).era = s.era := rfl
@[simp] theorem State.setDraws_draws (s : State) (v : Nat) : (s.setDraws v).draws = v := rfl
@[simp] theorem State.setDraws_pins (s : State) (v : Nat) : (s.setDraws v).pins = s.pins := rfl
@[simp] theorem State.setDraws_env (s : State) (v : Nat) : (s.setDraws v).env = s.env := rfl
@[simp] theorem State.setDraws_chip (s : State) (v : Nat) : (s.setDraws v).chip = s.chip := rfl
@[simp] theorem State.setDraws_cell (s : State) (v : Nat) (a : DataAddr) : (s.setDraws v).cell a = s.cell a := rfl
@[simp] theorem State.setDraws_romByte (s : State) (v : Nat) (p : BitVec 13) : (s.setDraws v).romByte p = s.romByte p := rfl

/-! ### setPins -/

@[simp] theorem State.setPins_acc (s : State) (v : Pins) : (s.setPins v).acc = s.acc := rfl
@[simp] theorem State.setPins_r (s : State) (v : Pins) : (s.setPins v).r = s.r := rfl
@[simp] theorem State.setPins_c (s : State) (v : Pins) : (s.setPins v).c = s.c := rfl
@[simp] theorem State.setPins_pc (s : State) (v : Pins) : (s.setPins v).pc = s.pc := rfl
@[simp] theorem State.setPins_pa (s : State) (v : Pins) : (s.setPins v).pa = s.pa := rfl
@[simp] theorem State.setPins_stk (s : State) (v : Pins) : (s.setPins v).stk = s.stk := rfl
@[simp] theorem State.setPins_subf (s : State) (v : Pins) : (s.setPins v).subf = s.subf := rfl
@[simp] theorem State.setPins_tmr (s : State) (v : Pins) : (s.setPins v).tmr = s.tmr := rfl
@[simp] theorem State.setPins_ton (s : State) (v : Pins) : (s.setPins v).ton = s.ton := rfl
@[simp] theorem State.setPins_tf (s : State) (v : Pins) : (s.setPins v).tf = s.tf := rfl
@[simp] theorem State.setPins_phase (s : State) (v : Pins) : (s.setPins v).phase = s.phase := rfl
@[simp] theorem State.setPins_ie (s : State) (v : Pins) : (s.setPins v).ie = s.ie := rfl
@[simp] theorem State.setPins_exf (s : State) (v : Pins) : (s.setPins v).exf = s.exf := rfl
@[simp] theorem State.setPins_halted (s : State) (v : Pins) : (s.setPins v).halted = s.halted := rfl
@[simp] theorem State.setPins_snd (s : State) (v : Pins) : (s.setPins v).snd = s.snd := rfl
@[simp] theorem State.setPins_ram (s : State) (v : Pins) : (s.setPins v).ram = s.ram := rfl
@[simp] theorem State.setPins_rom (s : State) (v : Pins) : (s.setPins v).rom = s.rom := rfl
@[simp] theorem State.setPins_era (s : State) (v : Pins) : (s.setPins v).era = s.era := rfl
@[simp] theorem State.setPins_draws (s : State) (v : Pins) : (s.setPins v).draws = s.draws := rfl
@[simp] theorem State.setPins_pins (s : State) (v : Pins) : (s.setPins v).pins = v := rfl
@[simp] theorem State.setPins_env (s : State) (v : Pins) : (s.setPins v).env = s.env := rfl
@[simp] theorem State.setPins_chip (s : State) (v : Pins) : (s.setPins v).chip = s.chip := rfl
@[simp] theorem State.setPins_cell (s : State) (v : Pins) (a : DataAddr) : (s.setPins v).cell a = s.cell a := rfl
@[simp] theorem State.setPins_romByte (s : State) (v : Pins) (p : BitVec 13) : (s.setPins v).romByte p = s.romByte p := rfl

/-! ### setEnv -/

@[simp] theorem State.setEnv_acc (s : State) (v : List Event) : (s.setEnv v).acc = s.acc := rfl
@[simp] theorem State.setEnv_r (s : State) (v : List Event) : (s.setEnv v).r = s.r := rfl
@[simp] theorem State.setEnv_c (s : State) (v : List Event) : (s.setEnv v).c = s.c := rfl
@[simp] theorem State.setEnv_pc (s : State) (v : List Event) : (s.setEnv v).pc = s.pc := rfl
@[simp] theorem State.setEnv_pa (s : State) (v : List Event) : (s.setEnv v).pa = s.pa := rfl
@[simp] theorem State.setEnv_stk (s : State) (v : List Event) : (s.setEnv v).stk = s.stk := rfl
@[simp] theorem State.setEnv_subf (s : State) (v : List Event) : (s.setEnv v).subf = s.subf := rfl
@[simp] theorem State.setEnv_tmr (s : State) (v : List Event) : (s.setEnv v).tmr = s.tmr := rfl
@[simp] theorem State.setEnv_ton (s : State) (v : List Event) : (s.setEnv v).ton = s.ton := rfl
@[simp] theorem State.setEnv_tf (s : State) (v : List Event) : (s.setEnv v).tf = s.tf := rfl
@[simp] theorem State.setEnv_phase (s : State) (v : List Event) : (s.setEnv v).phase = s.phase := rfl
@[simp] theorem State.setEnv_ie (s : State) (v : List Event) : (s.setEnv v).ie = s.ie := rfl
@[simp] theorem State.setEnv_exf (s : State) (v : List Event) : (s.setEnv v).exf = s.exf := rfl
@[simp] theorem State.setEnv_halted (s : State) (v : List Event) : (s.setEnv v).halted = s.halted := rfl
@[simp] theorem State.setEnv_snd (s : State) (v : List Event) : (s.setEnv v).snd = s.snd := rfl
@[simp] theorem State.setEnv_ram (s : State) (v : List Event) : (s.setEnv v).ram = s.ram := rfl
@[simp] theorem State.setEnv_rom (s : State) (v : List Event) : (s.setEnv v).rom = s.rom := rfl
@[simp] theorem State.setEnv_era (s : State) (v : List Event) : (s.setEnv v).era = s.era := rfl
@[simp] theorem State.setEnv_draws (s : State) (v : List Event) : (s.setEnv v).draws = s.draws := rfl
@[simp] theorem State.setEnv_pins (s : State) (v : List Event) : (s.setEnv v).pins = s.pins := rfl
@[simp] theorem State.setEnv_env (s : State) (v : List Event) : (s.setEnv v).env = v := rfl
@[simp] theorem State.setEnv_chip (s : State) (v : List Event) : (s.setEnv v).chip = s.chip := rfl
@[simp] theorem State.setEnv_cell (s : State) (v : List Event) (a : DataAddr) : (s.setEnv v).cell a = s.cell a := rfl
@[simp] theorem State.setEnv_romByte (s : State) (v : List Event) (p : BitVec 13) : (s.setEnv v).romByte p = s.romByte p := rfl

/-! ### setReg -/

@[simp] theorem State.setReg_acc (s : State) (n : Reg) (v : Nibble) : (s.setReg n v).acc = s.acc := rfl
@[simp] theorem State.setReg_r (s : State) (n : Reg) (v : Nibble) : (s.setReg n v).r = s.r.set n v := rfl
@[simp] theorem State.setReg_c (s : State) (n : Reg) (v : Nibble) : (s.setReg n v).c = s.c := rfl
@[simp] theorem State.setReg_pc (s : State) (n : Reg) (v : Nibble) : (s.setReg n v).pc = s.pc := rfl
@[simp] theorem State.setReg_pa (s : State) (n : Reg) (v : Nibble) : (s.setReg n v).pa = s.pa := rfl
@[simp] theorem State.setReg_stk (s : State) (n : Reg) (v : Nibble) : (s.setReg n v).stk = s.stk := rfl
@[simp] theorem State.setReg_subf (s : State) (n : Reg) (v : Nibble) : (s.setReg n v).subf = s.subf := rfl
@[simp] theorem State.setReg_tmr (s : State) (n : Reg) (v : Nibble) : (s.setReg n v).tmr = s.tmr := rfl
@[simp] theorem State.setReg_ton (s : State) (n : Reg) (v : Nibble) : (s.setReg n v).ton = s.ton := rfl
@[simp] theorem State.setReg_tf (s : State) (n : Reg) (v : Nibble) : (s.setReg n v).tf = s.tf := rfl
@[simp] theorem State.setReg_phase (s : State) (n : Reg) (v : Nibble) : (s.setReg n v).phase = s.phase := rfl
@[simp] theorem State.setReg_ie (s : State) (n : Reg) (v : Nibble) : (s.setReg n v).ie = s.ie := rfl
@[simp] theorem State.setReg_exf (s : State) (n : Reg) (v : Nibble) : (s.setReg n v).exf = s.exf := rfl
@[simp] theorem State.setReg_halted (s : State) (n : Reg) (v : Nibble) : (s.setReg n v).halted = s.halted := rfl
@[simp] theorem State.setReg_snd (s : State) (n : Reg) (v : Nibble) : (s.setReg n v).snd = s.snd := rfl
@[simp] theorem State.setReg_ram (s : State) (n : Reg) (v : Nibble) : (s.setReg n v).ram = s.ram := rfl
@[simp] theorem State.setReg_rom (s : State) (n : Reg) (v : Nibble) : (s.setReg n v).rom = s.rom := rfl
@[simp] theorem State.setReg_era (s : State) (n : Reg) (v : Nibble) : (s.setReg n v).era = s.era := rfl
@[simp] theorem State.setReg_draws (s : State) (n : Reg) (v : Nibble) : (s.setReg n v).draws = s.draws := rfl
@[simp] theorem State.setReg_pins (s : State) (n : Reg) (v : Nibble) : (s.setReg n v).pins = s.pins := rfl
@[simp] theorem State.setReg_env (s : State) (n : Reg) (v : Nibble) : (s.setReg n v).env = s.env := rfl
@[simp] theorem State.setReg_chip (s : State) (n : Reg) (v : Nibble) : (s.setReg n v).chip = s.chip := rfl
@[simp] theorem State.setReg_cell (s : State) (n : Reg) (v : Nibble) (a : DataAddr) : (s.setReg n v).cell a = s.cell a := rfl
@[simp] theorem State.setReg_romByte (s : State) (n : Reg) (v : Nibble) (p : BitVec 13) : (s.setReg n v).romByte p = s.romByte p := rfl

/-! ### setCell -/

@[simp] theorem State.setCell_acc (s : State) (b : DataAddr) (v : Nibble) : (s.setCell b v).acc = s.acc := rfl
@[simp] theorem State.setCell_r (s : State) (b : DataAddr) (v : Nibble) : (s.setCell b v).r = s.r := rfl
@[simp] theorem State.setCell_c (s : State) (b : DataAddr) (v : Nibble) : (s.setCell b v).c = s.c := rfl
@[simp] theorem State.setCell_pc (s : State) (b : DataAddr) (v : Nibble) : (s.setCell b v).pc = s.pc := rfl
@[simp] theorem State.setCell_pa (s : State) (b : DataAddr) (v : Nibble) : (s.setCell b v).pa = s.pa := rfl
@[simp] theorem State.setCell_stk (s : State) (b : DataAddr) (v : Nibble) : (s.setCell b v).stk = s.stk := rfl
@[simp] theorem State.setCell_subf (s : State) (b : DataAddr) (v : Nibble) : (s.setCell b v).subf = s.subf := rfl
@[simp] theorem State.setCell_tmr (s : State) (b : DataAddr) (v : Nibble) : (s.setCell b v).tmr = s.tmr := rfl
@[simp] theorem State.setCell_ton (s : State) (b : DataAddr) (v : Nibble) : (s.setCell b v).ton = s.ton := rfl
@[simp] theorem State.setCell_tf (s : State) (b : DataAddr) (v : Nibble) : (s.setCell b v).tf = s.tf := rfl
@[simp] theorem State.setCell_phase (s : State) (b : DataAddr) (v : Nibble) : (s.setCell b v).phase = s.phase := rfl
@[simp] theorem State.setCell_ie (s : State) (b : DataAddr) (v : Nibble) : (s.setCell b v).ie = s.ie := rfl
@[simp] theorem State.setCell_exf (s : State) (b : DataAddr) (v : Nibble) : (s.setCell b v).exf = s.exf := rfl
@[simp] theorem State.setCell_halted (s : State) (b : DataAddr) (v : Nibble) : (s.setCell b v).halted = s.halted := rfl
@[simp] theorem State.setCell_snd (s : State) (b : DataAddr) (v : Nibble) : (s.setCell b v).snd = s.snd := rfl
@[simp] theorem State.setCell_ram (s : State) (b : DataAddr) (v : Nibble) : (s.setCell b v).ram = Memory.put s.ram b.toNat v := rfl
@[simp] theorem State.setCell_rom (s : State) (b : DataAddr) (v : Nibble) : (s.setCell b v).rom = s.rom := rfl
@[simp] theorem State.setCell_era (s : State) (b : DataAddr) (v : Nibble) : (s.setCell b v).era = s.era := rfl
@[simp] theorem State.setCell_draws (s : State) (b : DataAddr) (v : Nibble) : (s.setCell b v).draws = s.draws := rfl
@[simp] theorem State.setCell_pins (s : State) (b : DataAddr) (v : Nibble) : (s.setCell b v).pins = s.pins := rfl
@[simp] theorem State.setCell_env (s : State) (b : DataAddr) (v : Nibble) : (s.setCell b v).env = s.env := rfl
@[simp] theorem State.setCell_chip (s : State) (b : DataAddr) (v : Nibble) : (s.setCell b v).chip = s.chip := rfl
@[simp] theorem State.setCell_romByte (s : State) (b : DataAddr) (v : Nibble) (p : BitVec 13) : (s.setCell b v).romByte p = s.romByte p := rfl

/-! ### advance -/

@[simp] theorem State.advance_acc (s : State) (len : Nat) : (s.advance len).acc = s.acc := rfl
@[simp] theorem State.advance_r (s : State) (len : Nat) : (s.advance len).r = s.r := rfl
@[simp] theorem State.advance_c (s : State) (len : Nat) : (s.advance len).c = s.c := rfl
@[simp] theorem State.advance_pc (s : State) (len : Nat) : (s.advance len).pc = s.pc + BitVec.ofNat 12 len := rfl
@[simp] theorem State.advance_pa (s : State) (len : Nat) : (s.advance len).pa = s.pa := rfl
@[simp] theorem State.advance_stk (s : State) (len : Nat) : (s.advance len).stk = s.stk := rfl
@[simp] theorem State.advance_subf (s : State) (len : Nat) : (s.advance len).subf = s.subf := rfl
@[simp] theorem State.advance_tmr (s : State) (len : Nat) : (s.advance len).tmr = s.tmr := rfl
@[simp] theorem State.advance_ton (s : State) (len : Nat) : (s.advance len).ton = s.ton := rfl
@[simp] theorem State.advance_tf (s : State) (len : Nat) : (s.advance len).tf = s.tf := rfl
@[simp] theorem State.advance_phase (s : State) (len : Nat) : (s.advance len).phase = s.phase := rfl
@[simp] theorem State.advance_ie (s : State) (len : Nat) : (s.advance len).ie = s.ie := rfl
@[simp] theorem State.advance_exf (s : State) (len : Nat) : (s.advance len).exf = s.exf := rfl
@[simp] theorem State.advance_halted (s : State) (len : Nat) : (s.advance len).halted = s.halted := rfl
@[simp] theorem State.advance_snd (s : State) (len : Nat) : (s.advance len).snd = s.snd := rfl
@[simp] theorem State.advance_ram (s : State) (len : Nat) : (s.advance len).ram = s.ram := rfl
@[simp] theorem State.advance_rom (s : State) (len : Nat) : (s.advance len).rom = s.rom := rfl
@[simp] theorem State.advance_era (s : State) (len : Nat) : (s.advance len).era = s.era := rfl
@[simp] theorem State.advance_draws (s : State) (len : Nat) : (s.advance len).draws = s.draws := rfl
@[simp] theorem State.advance_pins (s : State) (len : Nat) : (s.advance len).pins = s.pins := rfl
@[simp] theorem State.advance_env (s : State) (len : Nat) : (s.advance len).env = s.env := rfl
@[simp] theorem State.advance_chip (s : State) (len : Nat) : (s.advance len).chip = s.chip := rfl
@[simp] theorem State.advance_cell (s : State) (len : Nat) (a : DataAddr) : (s.advance len).cell a = s.cell a := rfl
@[simp] theorem State.advance_romByte (s : State) (len : Nat) (p : BitVec 13) : (s.advance len).romByte p = s.romByte p := rfl

end Sys2Proof.Machine
end

