-- ==== Sys2Proof/Laws/Ops.lean ====
section
/-! SUPPORT. For each shared operation one lemma that says once everything it can do, to be cited instead of unfolding
it. -/

namespace Sys2Proof.Machine

/-! ## Working registers -/

@[simp] theorem Regs.get_set_same (x : Regs) (n : Reg) (v : Nibble) : (x.set n v).get n = v := by
  cases n <;> rfl

theorem Regs.get_set_other (x : Regs) (n m : Reg) (v : Nibble) (h : m ≠ n) : (x.set n v).get m = x.get m := by
  cases n <;> cases m <;> first | rfl | exact absurd rfl h

/-! ## Data memory -/

@[simp] theorem State.cell_setCell_same (s : State) (a : DataAddr) (v : Nibble) : (s.setCell a v).cell a = v := by
  simp [State.cell, State.setCell, State.setRam]

theorem State.cell_setCell_other (s : State) (a b : DataAddr) (v : Nibble) (h : b ≠ a) :
    (s.setCell a v).cell b = s.cell b := by
  have hn : b.toNat ≠ a.toNat := fun e => h (BitVec.eq_of_toNat_eq e)
  simp [State.cell, State.setCell, State.setRam, Memory.find_put_other _ _ _ _ hn]

/-- A read answers what its continuation answers on the cell's value, at an address that can be used, or stops. -/
theorem memRead_cases (s : State) (a : DataAddr) (k : Nibble → Result) :
    (ramExists a.toNat = true ∧ memRead s a k = k (s.cell a)) ∨
      (ramExists a.toNat = false ∧ memRead s a k = .fault (.undefinedRam a)) := by
  unfold memRead
  cases h : ramExists a.toNat <;> simp

/-- A write answers what its continuation answers on the written state, at an address that can be used, or stops. -/
theorem memWrite_cases (s : State) (a : DataAddr) (v : Nibble) (k : State → Result) :
    (ramExists a.toNat = true ∧ memWrite s a v k = k (s.setCell a v)) ∨
      (ramExists a.toNat = false ∧ memWrite s a v k = .fault (.undefinedRam a)) := by
  unfold memWrite
  cases h : ramExists a.toNat <;> simp

@[simp] theorem memRead_usable (s : State) (a : DataAddr) (k : Nibble → Result) (h : ramExists a.toNat = true) :
    memRead s a k = k (s.cell a) := by simp [memRead, h]

@[simp] theorem memWrite_usable (s : State) (a : DataAddr) (v : Nibble) (k : State → Result)
    (h : ramExists a.toNat = true) : memWrite s a v k = k (s.setCell a v) := by simp [memWrite, h]

@[simp] theorem memRead_undefined (s : State) (a : DataAddr) (k : Nibble → Result) (h : ramExists a.toNat = false) :
    memRead s a k = .fault (.undefinedRam a) := by simp [memRead, h]

@[simp] theorem memWrite_undefined (s : State) (a : DataAddr) (v : Nibble) (k : State → Result)
    (h : ramExists a.toNat = false) : memWrite s a v k = .fault (.undefinedRam a) := by simp [memWrite, h]

/-- If a read answers a next state, the address can be used and the continuation answers it. -/
theorem memRead_next {s t : State} {a : DataAddr} {k : Nibble → Result} (h : memRead s a k = .next t) :
    ramExists a.toNat = true ∧ k (s.cell a) = .next t := by
  rcases memRead_cases s a k with ⟨ha, e⟩ | ⟨_, e⟩
  · exact ⟨ha, e ▸ h⟩
  · rw [e] at h; cases h

/-- If a write answers a next state, the address can be used and the continuation answers it. -/
theorem memWrite_next {s t : State} {a : DataAddr} {v : Nibble} {k : State → Result}
    (h : memWrite s a v k = .next t) : ramExists a.toNat = true ∧ k (s.setCell a v) = .next t := by
  rcases memWrite_cases s a v k with ⟨ha, e⟩ | ⟨_, e⟩
  · exact ⟨ha, e ▸ h⟩
  · rw [e] at h; cases h

/-- Everything a read-modify-write of one cell can do. -/
theorem updateCell_next {s t : State} {a : DataAddr} {g : Nibble → Nibble} (h : updateCell s a g = .next t) :
    ramExists a.toNat = true ∧ t = (s.setCell a (g (s.cell a))).advance 1 := by
  obtain ⟨ha, h1⟩ := memRead_next h
  obtain ⟨_, h2⟩ := memWrite_next h1
  exact ⟨ha, by cases h2; rfl⟩

/-! ## Returning -/

/-- If a return answers a next state, the stack register had been written, and PC, SUBF and, for `RETI`, C are as the
spec says. -/
theorem returnFrom_next {s t : State} {b : Bool} (h : returnFrom b s = .next t) :
    s.stk.written = true ∧
      t = ((if b then s.setCarry s.savedCarry else s).setPc s.stk.pc).setSubf false := by
  unfold returnFrom at h
  cases hw : s.stk.written with
  | true => simp only [hw, if_true] at h; cases h; exact ⟨rfl, rfl⟩
  | false => simp only [hw, if_false, Bool.false_eq_true] at h; cases h

/-! ## Interrupts -/

/-- Where an interrupt is due: pending, enabled and not held (R233). -/
theorem interruptDue_some {s : State} {src : IntSource} (h : interruptDue s = some src) :
    s.ie = true ∧ s.subf = false ∧
      (src = .timer → s.tf = true) ∧ (src = .external → s.exf = true) := by
  unfold interruptDue at h
  cases hie : s.ie <;> cases hsub : s.subf <;> cases htf : s.tf <;> cases hexf : s.exf <;>
    cases hp : s.chip.intPriority <;> cases src <;> simp_all

/-- Everything an interrupt entry changes (R238). -/
theorem interruptEntry_eq (src : IntSource) (s : State) :
    interruptEntry src s =
      { s with stk := ⟨s.pc, s.c, true, true⟩, subf := true, pc := src.vector,
               tf := if src = .timer then false else s.tf,
               exf := if src = .external then false else s.exf } := by
  cases src <;> rfl

/-! ## The timer -/

/-- The timer clocks change TMR and TF only. -/
theorem timerClocks_frame (k : Nat) (s : State) :
    timerClocks k s = { s with tmr := (timerClocks k s).tmr, tf := (timerClocks k s).tf } := by
  induction k generalizing s with
  | zero => rfl
  | succ k ih => exact (ih (timerClock s)).trans rfl

/-- The end of an instruction changes TMR, TF and the divider phase only. -/
theorem timerAfter_frame (cyc : Nat) (s : State) :
    timerAfter cyc s =
      { s with tmr := (timerAfter cyc s).tmr, tf := (timerAfter cyc s).tf, phase := (timerAfter cyc s).phase } := by
  unfold timerAfter
  split
  · exact (timerClocks_frame _ _).trans (by simp only [State.setPhase]; rw [timerClocks_frame])
  · rfl

/-! ## Events -/

/-- A change of the pins is a wake-up in HALT mode with a falling edge of a WAKE pin, and otherwise only new pins and
another draw. -/
theorem pinsChanged_cases (p : Pins) (s : State) :
    (¬(s.halted = true ∧ wakeEdge s.chip.wake (pinLevels s) (pinLevels (withPins p s)) = true) ∧
      pinsChanged p s = withPins p s) ∨
    (s.halted = true ∧ wakeEdge s.chip.wake (pinLevels s) (pinLevels (withPins p s)) = true ∧
      pinsChanged p s = wakeUp (withPins p s)) := by
  unfold pinsChanged
  split
  · next h => exact .inr ⟨(Bool.and_eq_true_iff.1 h).1, (Bool.and_eq_true_iff.1 h).2, rfl⟩
  · next h => exact .inl ⟨fun e => h (Bool.and_eq_true_iff.2 e), rfl⟩

/-- The end of a sound clears SND.on outside HALT in SONE mode and otherwise changes nothing. -/
theorem soundEnded_eq (s : State) : soundEnded s = s.setSnd { s.snd with on := s.snd.on && (s.snd.loop || s.halted) } := by
  unfold soundEnded
  split
  · next h => simp only [Bool.and_eq_true, Bool.not_eq_true'] at h; simp [h]
  · next h =>
    have e : (s.snd.on && (s.snd.loop || s.halted)) = s.snd.on := by
      cases ho : s.snd.on <;> cases hl : s.snd.loop <;> cases hh : s.halted <;> simp_all
    rw [e]; rfl

end Sys2Proof.Machine
end

