-- ==== Sys2Proof/Laws/PerInstr.lean ====
section
/-! SUPPORT. Statements made for every instruction, one lemma per constructor. The family RoundTrip: the decoder reads an
instruction's own bytes back, whatever byte follows them. -/

namespace Sys2Proof.Laws

/-! ## Fields of concatenated bytes -/

theorem high_of_nibbles (h l : Nibble) : (h ++ l : Byte).extractLsb' 4 4 = h := by
  revert h l; decide

theorem low_of_nibbles (h l : Nibble) : (h ++ l : Byte).extractLsb' 0 4 = l := by
  revert h l; decide

/-- The fields of a first byte of format F2C: high nibble, bit 3, low three bits (R98). -/
theorem fields_of_cond (op : BitVec 5) (a : BitVec 3) :
    (op ++ a : Byte).extractLsb' 4 4 = op.extractLsb' 1 4 ∧ (op ++ a : Byte).getLsbD 3 = op.getLsbD 0 ∧
      (op ++ a : Byte).extractLsb' 0 3 = a := by
  revert op a; decide

theorem join11 (a : BitVec 11) : (a.extractLsb' 8 3 ++ a.extractLsb' 0 8 : BitVec 11) = a :=
  BitVec.extractLsb'_append_extractLsb' (w := 3) (len := 8) (x := a)

theorem join12 (a : BitVec 12) : (a.extractLsb' 8 4 ++ a.extractLsb' 0 8 : BitVec 12) = a :=
  BitVec.extractLsb'_append_extractLsb' (w := 4) (len := 8) (x := a)

/-- Format F2I reads back the immediate it carries. -/
theorem imm4_encoded (mk : Nibble → Instr) (b1 : Byte) (d : Nibble) : imm4 mk b1 (0#4 ++ d) = .ok (mk d) := by
  simp only [imm4, high_of_nibbles, low_of_nibbles, if_true]

/-- Format F2P reads back both nibbles. -/
theorem nibblePair_encoded (mk : Nibble → Nibble → Instr) (op e f : Nibble) :
    nibblePair mk (op ++ e) (0#4 ++ f) = .ok (mk e f) := by
  simp only [nibblePair, high_of_nibbles, low_of_nibbles, if_true]

/-- Format F2C reads back its eleven address bits, and bit 0 of the opcode tells the two instructions apart. -/
theorem condPair_encoded (low high : BitVec 11 → Instr) (op : BitVec 5) (a : BitVec 11) :
    condPair low high (op ++ a.extractLsb' 8 3) (a.extractLsb' 0 8) =
      .ok (if op.getLsbD 0 then high a else low a) := by
  simp only [condPair, addr11, (fields_of_cond op (a.extractLsb' 8 3)).2, join11]

/-- Format F2J reads back its twelve address bits. -/
theorem addr12_encoded (op : Nibble) (a : BitVec 12) : addr12 (op ++ a.extractLsb' 8 4) (a.extractLsb' 0 8) = a := by
  simp only [addr12, low_of_nibbles, join12]

/-- The row of the map that a first byte of format F2C selects. -/
theorem decode_cond (op : BitVec 5) (a : BitVec 11) :
    ((op ++ a.extractLsb' 8 3 : Byte).extractLsb' 4 4) = op.extractLsb' 1 4 :=
  (fields_of_cond op (a.extractLsb' 8 3)).1

namespace RoundTrip

/-- The decoder reads the instruction's own bytes back, whatever byte follows (R90, R91). -/
def Statement (i : Instr) : Prop := ∀ x : Byte, decodeBytes (encode i ++ [x]) = .ok i

theorem rrA : Statement .rrA := fun x => (show decode 0x00#8 x = _ from rfl)

theorem rlA : Statement .rlA := fun x => (show decode 0x01#8 x = _ from rfl)

theorem rrcA : Statement .rrcA := fun x => (show decode 0x02#8 x = _ from rfl)

theorem rlcA : Statement .rlcA := fun x => (show decode 0x03#8 x = _ from rfl)

theorem movAM10 : Statement .movAM10 := fun x => (show decode 0x04#8 x = _ from rfl)

theorem movM10A : Statement .movM10A := fun x => (show decode 0x05#8 x = _ from rfl)

theorem movAM32 : Statement .movAM32 := fun x => (show decode 0x06#8 x = _ from rfl)

theorem movM32A : Statement .movM32A := fun x => (show decode 0x07#8 x = _ from rfl)

theorem adcAM10 : Statement .adcAM10 := fun x => (show decode 0x08#8 x = _ from rfl)

theorem addAM10 : Statement .addAM10 := fun x => (show decode 0x09#8 x = _ from rfl)

theorem sbcAM10 : Statement .sbcAM10 := fun x => (show decode 0x0A#8 x = _ from rfl)

theorem subAM10 : Statement .subAM10 := fun x => (show decode 0x0B#8 x = _ from rfl)

theorem incM10 : Statement .incM10 := fun x => (show decode 0x0C#8 x = _ from rfl)

theorem decM10 : Statement .decM10 := fun x => (show decode 0x0D#8 x = _ from rfl)

theorem incM32 : Statement .incM32 := fun x => (show decode 0x0E#8 x = _ from rfl)

theorem decM32 : Statement .decM32 := fun x => (show decode 0x0F#8 x = _ from rfl)

theorem incR0 : Statement .incR0 := fun x => (show decode 0x10#8 x = _ from rfl)

theorem decR0 : Statement .decR0 := fun x => (show decode 0x11#8 x = _ from rfl)

theorem incR1 : Statement .incR1 := fun x => (show decode 0x12#8 x = _ from rfl)

theorem decR1 : Statement .decR1 := fun x => (show decode 0x13#8 x = _ from rfl)

theorem incR2 : Statement .incR2 := fun x => (show decode 0x14#8 x = _ from rfl)

theorem decR2 : Statement .decR2 := fun x => (show decode 0x15#8 x = _ from rfl)

theorem incR3 : Statement .incR3 := fun x => (show decode 0x16#8 x = _ from rfl)

theorem decR3 : Statement .decR3 := fun x => (show decode 0x17#8 x = _ from rfl)

theorem incR4 : Statement .incR4 := fun x => (show decode 0x18#8 x = _ from rfl)

theorem decR4 : Statement .decR4 := fun x => (show decode 0x19#8 x = _ from rfl)

theorem andAM10 : Statement .andAM10 := fun x => (show decode 0x1A#8 x = _ from rfl)

theorem xorAM10 : Statement .xorAM10 := fun x => (show decode 0x1B#8 x = _ from rfl)

theorem orAM10 : Statement .orAM10 := fun x => (show decode 0x1C#8 x = _ from rfl)

theorem andM10A : Statement .andM10A := fun x => (show decode 0x1D#8 x = _ from rfl)

theorem xorM10A : Statement .xorM10A := fun x => (show decode 0x1E#8 x = _ from rfl)

theorem orM10A : Statement .orM10A := fun x => (show decode 0x1F#8 x = _ from rfl)

theorem movR0A : Statement .movR0A := fun x => (show decode 0x20#8 x = _ from rfl)

theorem movAR0 : Statement .movAR0 := fun x => (show decode 0x21#8 x = _ from rfl)

theorem movR1A : Statement .movR1A := fun x => (show decode 0x22#8 x = _ from rfl)

theorem movAR1 : Statement .movAR1 := fun x => (show decode 0x23#8 x = _ from rfl)

theorem movR2A : Statement .movR2A := fun x => (show decode 0x24#8 x = _ from rfl)

theorem movAR2 : Statement .movAR2 := fun x => (show decode 0x25#8 x = _ from rfl)

theorem movR3A : Statement .movR3A := fun x => (show decode 0x26#8 x = _ from rfl)

theorem movAR3 : Statement .movAR3 := fun x => (show decode 0x27#8 x = _ from rfl)

theorem movR4A : Statement .movR4A := fun x => (show decode 0x28#8 x = _ from rfl)

theorem movAR4 : Statement .movAR4 := fun x => (show decode 0x29#8 x = _ from rfl)

theorem clc : Statement .clc := fun x => (show decode 0x2A#8 x = _ from rfl)

theorem stc : Statement .stc := fun x => (show decode 0x2B#8 x = _ from rfl)

theorem ei : Statement .ei := fun x => (show decode 0x2C#8 x = _ from rfl)

theorem di : Statement .di := fun x => (show decode 0x2D#8 x = _ from rfl)

theorem ret : Statement .ret := fun x => (show decode 0x2E#8 x = _ from rfl)

theorem reti : Statement .reti := fun x => (show decode 0x2F#8 x = _ from rfl)

theorem outPaA : Statement .outPaA := fun x => (show decode 0x30#8 x = _ from rfl)

theorem incA : Statement .incA := fun x => (show decode 0x31#8 x = _ from rfl)

theorem inAPs : Statement .inAPs := fun x => (show decode 0x33#8 x = _ from rfl)

theorem inAPp : Statement .inAPp := fun x => (show decode 0x34#8 x = _ from rfl)

theorem daa : Statement .daa := fun x => (show decode 0x36#8 x = _ from rfl)

theorem halt : Statement .halt := fun _ => (show decode 0x37#8 0x3E#8 = _ from rfl)

theorem timerOn : Statement .timerOn := fun x => (show decode 0x38#8 x = _ from rfl)

theorem timerOff : Statement .timerOff := fun x => (show decode 0x39#8 x = _ from rfl)

theorem movATmrl : Statement .movATmrl := fun x => (show decode 0x3A#8 x = _ from rfl)

theorem movATmrh : Statement .movATmrh := fun x => (show decode 0x3B#8 x = _ from rfl)

theorem movTmrlA : Statement .movTmrlA := fun x => (show decode 0x3C#8 x = _ from rfl)

theorem movTmrhA : Statement .movTmrhA := fun x => (show decode 0x3D#8 x = _ from rfl)

theorem nop : Statement .nop := fun x => (show decode 0x3E#8 x = _ from rfl)

theorem decA : Statement .decA := fun x => (show decode 0x3F#8 x = _ from rfl)

theorem addAX (d : Nibble) : Statement (.addAX d) := fun _ =>
  (show decode 0x40#8 (0#4 ++ d) = _ from imm4_encoded .addAX 0x40#8 d)

theorem subAX (d : Nibble) : Statement (.subAX d) := fun _ =>
  (show decode 0x41#8 (0#4 ++ d) = _ from imm4_encoded .subAX 0x41#8 d)

theorem andAX (d : Nibble) : Statement (.andAX d) := fun _ =>
  (show decode 0x42#8 (0#4 ++ d) = _ from imm4_encoded .andAX 0x42#8 d)

theorem xorAX (d : Nibble) : Statement (.xorAX d) := fun _ =>
  (show decode 0x43#8 (0#4 ++ d) = _ from imm4_encoded .xorAX 0x43#8 d)

theorem orAX (d : Nibble) : Statement (.orAX d) := fun _ =>
  (show decode 0x44#8 (0#4 ++ d) = _ from imm4_encoded .orAX 0x44#8 d)

theorem soundN (d : Nibble) : Statement (.soundN d) := fun _ =>
  (show decode 0x45#8 (0#4 ++ d) = _ from imm4_encoded .soundN 0x45#8 d)

theorem movR4X (d : Nibble) : Statement (.movR4X d) := fun _ =>
  (show decode 0x46#8 (0#4 ++ d) = _ from imm4_encoded .movR4X 0x46#8 d)

theorem timerX (d : Byte) : Statement (.timerX d) := fun _ => (show decode 0x47#8 d = _ from rfl)

theorem soundOne : Statement .soundOne := fun x => (show decode 0x48#8 x = _ from rfl)

theorem soundLoop : Statement .soundLoop := fun x => (show decode 0x49#8 x = _ from rfl)

theorem soundOff : Statement .soundOff := fun x => (show decode 0x4A#8 x = _ from rfl)

theorem soundA : Statement .soundA := fun x => (show decode 0x4B#8 x = _ from rfl)

theorem readR4a : Statement .readR4a := fun x => (show decode 0x4C#8 x = _ from rfl)

theorem readfR4a : Statement .readfR4a := fun x => (show decode 0x4D#8 x = _ from rfl)

theorem readMr0a : Statement .readMr0a := fun x => (show decode 0x4E#8 x = _ from rfl)

theorem readfMr0a : Statement .readfMr0a := fun x => (show decode 0x4F#8 x = _ from rfl)

theorem movR1R0X (e : Nibble) (f : Nibble) : Statement (.movR1R0X e f) := by
  intro x
  show decode (_ ++ e) (0#4 ++ f) = _
  simp only [decode, high_of_nibbles]
  exact nibblePair_encoded .movR1R0X _ e f

theorem movR3R2X (e : Nibble) (f : Nibble) : Statement (.movR3R2X e f) := by
  intro x
  show decode (_ ++ e) (0#4 ++ f) = _
  simp only [decode, high_of_nibbles]
  exact nibblePair_encoded .movR3R2X _ e f

theorem movAX (d : Nibble) : Statement (.movAX d) := by
  intro x
  show decode (0x7#4 ++ d) x = _
  simp only [decode, high_of_nibbles, low_of_nibbles]
  rfl

theorem ja0 (addr : BitVec 11) : Statement (.ja0 addr) := by
  intro x
  show decode (_ ++ _) _ = _
  simp only [decode, decode_cond]
  exact condPair_encoded _ _ _ addr

theorem ja1 (addr : BitVec 11) : Statement (.ja1 addr) := by
  intro x
  show decode (_ ++ _) _ = _
  simp only [decode, decode_cond]
  exact condPair_encoded _ _ _ addr

theorem ja2 (addr : BitVec 11) : Statement (.ja2 addr) := by
  intro x
  show decode (_ ++ _) _ = _
  simp only [decode, decode_cond]
  exact condPair_encoded _ _ _ addr

theorem ja3 (addr : BitVec 11) : Statement (.ja3 addr) := by
  intro x
  show decode (_ ++ _) _ = _
  simp only [decode, decode_cond]
  exact condPair_encoded _ _ _ addr

theorem jnzR0 (addr : BitVec 11) : Statement (.jnzR0 addr) := by
  intro x
  show decode (_ ++ _) _ = _
  simp only [decode, decode_cond]
  exact condPair_encoded _ _ _ addr

theorem jnzR1 (addr : BitVec 11) : Statement (.jnzR1 addr) := by
  intro x
  show decode (_ ++ _) _ = _
  simp only [decode, decode_cond]
  exact condPair_encoded _ _ _ addr

theorem jzA (addr : BitVec 11) : Statement (.jzA addr) := by
  intro x
  show decode (_ ++ _) _ = _
  simp only [decode, decode_cond]
  exact condPair_encoded _ _ _ addr

theorem jnzA (addr : BitVec 11) : Statement (.jnzA addr) := by
  intro x
  show decode (_ ++ _) _ = _
  simp only [decode, decode_cond]
  exact condPair_encoded _ _ _ addr

theorem jc (addr : BitVec 11) : Statement (.jc addr) := by
  intro x
  show decode (_ ++ _) _ = _
  simp only [decode, decode_cond]
  exact condPair_encoded _ _ _ addr

theorem jnc (addr : BitVec 11) : Statement (.jnc addr) := by
  intro x
  show decode (_ ++ _) _ = _
  simp only [decode, decode_cond]
  exact condPair_encoded _ _ _ addr

theorem jtmr (addr : BitVec 11) : Statement (.jtmr addr) := by
  intro x
  show decode (_ ++ _) _ = _
  simp only [decode, decode_cond]
  exact condPair_encoded _ _ _ addr

theorem jnzR4 (addr : BitVec 11) : Statement (.jnzR4 addr) := by
  intro x
  show decode (_ ++ _) _ = _
  simp only [decode, decode_cond]
  exact condPair_encoded _ _ _ addr

theorem jmp (addr : BitVec 12) : Statement (.jmp addr) := by
  intro x
  show decode (_ ++ _) _ = _
  simp only [decode, high_of_nibbles]
  exact congrArg _ (congrArg _ (addr12_encoded _ addr))

theorem call (addr : BitVec 12) : Statement (.call addr) := by
  intro x
  show decode (_ ++ _) _ = _
  simp only [decode, high_of_nibbles]
  exact congrArg _ (congrArg _ (addr12_encoded _ addr))

end RoundTrip

end Sys2Proof.Laws
end

