-- ==== Sys2Proof/Laws/Step.lean ====
section
/-! SUPPORT. Everything one step can do, said once, for later proofs to split on instead of unfolding the step. -/

namespace Sys2Proof.Machine

/-- If the end of an instruction is a next state, the instruction had one. -/
theorem finish_next {i : Instr} {r : Result} {t : State} (h : finish i r = .next t) :
    ∃ u, r = .next u ∧ t = timerAfter i.cycles u := by
  cases r with
  | next u => cases h; exact ⟨u, rfl, rfl⟩
  | fault f => cases h
  | refused x => cases h

/-- If running an instruction gives a next state, the bytes at PC decode, exec gives a next state, and the timer clocks
follow it. -/
theorem runInstruction_next {s t : State} (h : runInstruction s = .next t) :
    ∃ i u, decode (fetch s).1 (fetch s).2 = .ok i ∧ exec i s = .next u ∧ t = timerAfter i.cycles u := by
  unfold runInstruction at h
  cases hd : decode (fetch s).1 (fetch s).2 with
  | error e => rw [hd] at h; cases h
  | ok i =>
    rw [hd] at h
    obtain ⟨u, hu, ht⟩ := finish_next h
    exact ⟨i, u, rfl, hu, ht⟩

/-- What a boundary can do: stay halted, take an interrupt, or run an instruction. -/
theorem atBoundary_next {s t : State} (h : atBoundary s = .next t) :
    (s.halted = true ∧ t = s) ∨
    (∃ src, s.halted = false ∧ interruptDue s = some src ∧ t = interruptEntry src s) ∨
    (s.halted = false ∧ interruptDue s = none ∧
      ∃ i u, decode (fetch s).1 (fetch s).2 = .ok i ∧ exec i s = .next u ∧ t = timerAfter i.cycles u) := by
  unfold atBoundary at h
  cases hh : s.halted with
  | true => simp only [hh, if_true] at h; cases h; exact .inl ⟨rfl, rfl⟩
  | false =>
    simp only [hh, Bool.false_eq_true, if_false] at h
    cases hi : interruptDue s with
    | some src => rw [hi] at h; cases h; exact .inr (.inl ⟨src, rfl, rfl, rfl⟩)
    | none => rw [hi] at h; exact .inr (.inr ⟨rfl, rfl, runInstruction_next h⟩)

/-- Everything a step can do: a reset pulse, or the event of the outside and then what the boundary does. -/
theorem step_next {s t : State} (h : step s = .next t) :
    (resetDue s = true ∧ t = takeEvent s) ∨ (resetDue s = false ∧ atBoundary (takeEvent s) = .next t) := by
  unfold step stepOnce at h
  cases hr : resetDue s with
  | true => simp only [hr, if_true] at h; cases h; exact .inl ⟨rfl, rfl⟩
  | false => simp only [hr, Bool.false_eq_true, if_false] at h; exact .inr ⟨rfl, h⟩

/-- Everything the outside can do before the boundary. -/
theorem takeEvent_cases (s : State) :
    (s.env = [] ∧ takeEvent s = s) ∨
    (∃ rest, s.env = .idle :: rest ∧ takeEvent s = s.setEnv rest) ∨
    (∃ rest, s.env = .resetPulse :: rest ∧ takeEvent s = resetPulse (s.setEnv rest)) ∨
    (∃ p rest, s.env = .pinsChange p :: rest ∧ takeEvent s = pinsChanged p (s.setEnv rest)) ∨
    (∃ rest, s.env = .soundEnds :: rest ∧ takeEvent s = soundEnded (s.setEnv rest)) := by
  unfold takeEvent
  cases h : s.env with
  | nil => exact .inl ⟨rfl, rfl⟩
  | cons e rest =>
    cases e with
    | idle => exact .inr (.inl ⟨rest, rfl, rfl⟩)
    | resetPulse => exact .inr (.inr (.inl ⟨rest, rfl, rfl⟩))
    | pinsChange p => exact .inr (.inr (.inr (.inl ⟨p, rest, rfl, rfl⟩)))
    | soundEnds => exact .inr (.inr (.inr (.inr ⟨rest, rfl, rfl⟩)))

/-- What an event other than reset can change: the record of the outside, SND.on and, by a wake-up, HALTED and EXF. -/
theorem takeEvent_frame {s : State} (h : resetDue s = false) :
    takeEvent s =
      { s with env := (takeEvent s).env, pins := (takeEvent s).pins, draws := (takeEvent s).draws,
               halted := (takeEvent s).halted, exf := (takeEvent s).exf, snd.on := (takeEvent s).snd.on } := by
  rcases takeEvent_cases s with ⟨_, e⟩ | ⟨r, _, e⟩ | ⟨r, he, e⟩ | ⟨p, r, _, e⟩ | ⟨r, _, e⟩ <;> rw [e]
  · rfl
  · simp [resetDue, he] at h
  · rcases pinsChanged_cases p (s.setEnv r) with ⟨_, e⟩ | ⟨_, _, e⟩ <;> rw [e] <;>
      simp only [withPins, wakeUp, State.setPins, State.setDraws, State.setEnv, State.setHalted, State.setExf, State.setSnd]
  · rw [soundEnded_eq]; rfl

/-- An event other than reset leaves HALTED and EXF, unless it wakes the chip. -/
theorem takeEvent_wake {s : State} (h : resetDue s = false) :
    ((takeEvent s).halted = s.halted ∧ (takeEvent s).exf = s.exf) ∨
    (s.halted = true ∧ ∃ p rest, s.env = .pinsChange p :: rest ∧
      wakeEdge s.chip.wake (pinLevels s) (pinLevels (withPins p s)) = true ∧
      takeEvent s = wakeUp (withPins p (s.setEnv rest))) := by
  rcases takeEvent_cases s with ⟨_, e⟩ | ⟨r, _, e⟩ | ⟨r, he, e⟩ | ⟨p, r, he, e⟩ | ⟨r, _, e⟩ <;> rw [e]
  · exact .inl ⟨rfl, rfl⟩
  · exact .inl ⟨rfl, rfl⟩
  · simp [resetDue, he] at h
  · rcases pinsChanged_cases p (s.setEnv r) with ⟨_, e⟩ | ⟨hh, hw, e⟩ <;> rw [e]
    · exact .inl ⟨rfl, rfl⟩
    · exact .inr ⟨hh, p, r, he, hw, rfl⟩
  · rw [soundEnded_eq]; exact .inl ⟨rfl, rfl⟩

end Sys2Proof.Machine
end

