-- ==== Sys2Proof/Machine/Assembly.lean ====
section
/-! DEFINITION. The assembly spelling of an instruction (30_encoding.md R106). No step depends on it. -/

namespace Sys2Proof.Machine

/-- One hexadecimal digit. -/
def hexDigit (d : Nibble) : String :=
  #v["0", "1", "2", "3", "4", "5", "6", "7", "8", "9", "A", "B", "C", "D", "E", "F"][d.toNat]'d.isLt

/-- A number that starts with a letter is written with a 0 before it; H follows every one (R9, R106). -/
def hexNumber (first : Nibble) (digits : String) : String := (if 9 < first.toNat then "0" else "") ++ digits ++ "H"

/-- `XH`. -/
def hex1 (d : Nibble) : String := hexNumber d (hexDigit d)

/-- `XXH`. -/
def hex2 (v : Byte) : String := hexNumber (highNibble v) (hexDigit (highNibble v) ++ hexDigit (lowNibble v))

/-- A 12-bit program address. -/
def hex3 (a : ProgAddr) : String :=
  let hi : Nibble := a.extractLsb' 8 4
  hexNumber hi (hexDigit hi ++ hexDigit (a.extractLsb' 4 4) ++ hexDigit (a.extractLsb' 0 4))

/-- The full 12-bit target of a conditional jump that stands at address `at_` (R106, R175). -/
def fullTarget (at_ : ProgAddr) (addr : BitVec 11) : ProgAddr := (at_ + 2#12).extractLsb' 11 1 ++ addr

/-- The spelling of an instruction at address `at_`, on a chip of the given IMM8_ORDER (R96, R106). -/
def spelling (order : Config.Imm8Order) (at_ : ProgAddr) : Instr → String
  | .rrA => "RR A"
  | .rlA => "RL A"
  | .rrcA => "RRC A"
  | .rlcA => "RLC A"
  | .movAM10 => "MOV A,[R1R0]"
  | .movM10A => "MOV [R1R0],A"
  | .movAM32 => "MOV A,[R3R2]"
  | .movM32A => "MOV [R3R2],A"
  | .adcAM10 => "ADC A,[R1R0]"
  | .addAM10 => "ADD A,[R1R0]"
  | .sbcAM10 => "SBC A,[R1R0]"
  | .subAM10 => "SUB A,[R1R0]"
  | .incM10 => "INC [R1R0]"
  | .decM10 => "DEC [R1R0]"
  | .incM32 => "INC [R3R2]"
  | .decM32 => "DEC [R3R2]"
  | .incR0 => "INC R0"
  | .decR0 => "DEC R0"
  | .incR1 => "INC R1"
  | .decR1 => "DEC R1"
  | .incR2 => "INC R2"
  | .decR2 => "DEC R2"
  | .incR3 => "INC R3"
  | .decR3 => "DEC R3"
  | .incR4 => "INC R4"
  | .decR4 => "DEC R4"
  | .andAM10 => "AND A,[R1R0]"
  | .xorAM10 => "XOR A,[R1R0]"
  | .orAM10 => "OR A,[R1R0]"
  | .andM10A => "AND [R1R0],A"
  | .xorM10A => "XOR [R1R0],A"
  | .orM10A => "OR [R1R0],A"
  | .movR0A => "MOV R0,A"
  | .movAR0 => "MOV A,R0"
  | .movR1A => "MOV R1,A"
  | .movAR1 => "MOV A,R1"
  | .movR2A => "MOV R2,A"
  | .movAR2 => "MOV A,R2"
  | .movR3A => "MOV R3,A"
  | .movAR3 => "MOV A,R3"
  | .movR4A => "MOV R4,A"
  | .movAR4 => "MOV A,R4"
  | .clc => "CLC"
  | .stc => "STC"
  | .ei => "EI"
  | .di => "DI"
  | .ret => "RET"
  | .reti => "RETI"
  | .outPaA => "OUT PA,A"
  | .incA => "INC A"
  | .inAPs => "IN A,PS"
  | .inAPp => "IN A,PP"
  | .daa => "DAA"
  | .halt => "HALT"
  | .timerOn => "TIMER ON"
  | .timerOff => "TIMER OFF"
  | .movATmrl => "MOV A,TMRL"
  | .movATmrh => "MOV A,TMRH"
  | .movTmrlA => "MOV TMRL,A"
  | .movTmrhA => "MOV TMRH,A"
  | .nop => "NOP"
  | .decA => "DEC A"
  | .addAX d => "ADD A," ++ hex1 d
  | .subAX d => "SUB A," ++ hex1 d
  | .andAX d => "AND A," ++ hex1 d
  | .xorAX d => "XOR A," ++ hex1 d
  | .orAX d => "OR A," ++ hex1 d
  | .soundN d => "SOUND " ++ toString d.toNat
  | .movR4X d => "MOV R4," ++ hex1 d
  | .timerX d => "TIMER " ++ hex2 d
  | .soundOne => "SOUND ONE"
  | .soundLoop => "SOUND LOOP"
  | .soundOff => "SOUND OFF"
  | .soundA => "SOUND A"
  | .readR4a => "READ R4A"
  | .readfR4a => "READF R4A"
  | .readMr0a => "READ MR0A"
  | .readfMr0a => "READF MR0A"
  | .movR1R0X e f => "MOV R1R0," ++ hex2 (imm8 order e f)
  | .movR3R2X e f => "MOV R3R2," ++ hex2 (imm8 order e f)
  | .movAX d => "MOV A," ++ hex1 d
  | .ja0 a => "JA0 " ++ hex3 (fullTarget at_ a)
  | .ja1 a => "JA1 " ++ hex3 (fullTarget at_ a)
  | .ja2 a => "JA2 " ++ hex3 (fullTarget at_ a)
  | .ja3 a => "JA3 " ++ hex3 (fullTarget at_ a)
  | .jnzR0 a => "JNZ R0," ++ hex3 (fullTarget at_ a)
  | .jnzR1 a => "JNZ R1," ++ hex3 (fullTarget at_ a)
  | .jzA a => "JZ A," ++ hex3 (fullTarget at_ a)
  | .jnzA a => "JNZ A," ++ hex3 (fullTarget at_ a)
  | .jc a => "JC " ++ hex3 (fullTarget at_ a)
  | .jnc a => "JNC " ++ hex3 (fullTarget at_ a)
  | .jtmr a => "JTMR " ++ hex3 (fullTarget at_ a)
  | .jnzR4 a => "JNZ R4," ++ hex3 (fullTarget at_ a)
  | .jmp a => "JMP " ++ hex3 a
  | .call a => "CALL " ++ hex3 a

end Sys2Proof.Machine
end

