-- ==== Sys2Proof/Tests/Slice0.lean ====
section
/-! SUPPORT. Tests, each a named theorem. Expected results are the spec's: V, S, P and X numbers are the vectors of
95_test_vectors.md; the decoding words are written out from the encodings of 30_encoding.md. At the end one witness for
each statement that has hypotheses. -/

namespace Sys2Proof.Tests

open Sys2Proof.Machine

/-! ## Helpers -/

/-- A next state with the property. -/
def gives (r : Result) (p : State → Bool) : Bool :=
  match r with
  | .next t => p t
  | .fault _ => false
  | .refused _ => false

/-- This fault. -/
def stops (r : Result) (f : Fault) : Bool :=
  match r with
  | .next _ => false
  | .fault g => g == f
  | .refused _ => false

theorem gives_next {r : Result} {p : State → Bool} (h : gives r p = true) : ∃ t, r = .next t ∧ p t = true := by
  cases r with
  | next t => exact ⟨t, rfl, h⟩
  | fault f => cases h
  | refused x => cases h

theorem stops_fault {r : Result} {f : Fault} (h : stops r f = true) : r = .fault f := by
  cases r with
  | next t => cases h
  | fault g => exact congrArg _ (of_decide_eq_true h)
  | refused x => cases h

/-- The start of most vectors: PC = 100H in bank 1, the pointers R1:R0 and R3:R2 at `a`, ACC = `acc`, C = `c`, and the
cell at `a` holding `m`. -/
def start (a : DataAddr) (acc : Nibble) (c : Bool) (m : Nibble) : State :=
  { State.reset with
    pc := 0x100#12, acc := acc, c := c, ram := [(a.toNat, m)]
    r := ⟨lowNibble a, highNibble a, lowNibble a, highNibble a, 0#4⟩ }

/-- Cell 25H, as the vectors have it. -/
def at25 (acc : Nibble) (c : Bool) (m : Nibble) : State := start 0x25#8 acc c m

/-- PC at `pc` in the current bank, with these bytes there. -/
def withBytes (s : State) (pc : ProgAddr) (b1 b2 : Byte) : State :=
  let t := s.setPc pc
  t.setRom (Memory.put (Memory.put t.rom (t.physical pc).toNat b1) (t.physical (t.nxt 1)).toNat b2)

/-- State.reset with NOP, NOP at `100H`. -/
def nops : State := withBytes State.reset 0x100#12 0x3E#8 0x3E#8

/-- All pins driven high but PS0, which falls. -/
def fall : Event := .pinsChange ⟨⟨0xF#4, 0xE#4⟩, ⟨0xF#4, 0xF#4⟩⟩

/-- Every word is read as its instruction. -/
def reads (nbits : Nat) (l : List (Nat × Instr)) : Bool := l.all fun p => decodeTableWord nbits p.1 == some p.2

/-! ## Well-formedness: one ill-formed term for each check -/

/-- R101. -/
theorem test_wf_unassigned : bytesWellFormed 0x32#8 0x00#8 = false ∧ bytesWellFormed 0x35#8 0x00#8 = false := by decide

/-- R102, V21, V83. -/
theorem test_wf_printed_zeros : bytesWellFormed 0x40#8 0x19#8 = false ∧ bytesWellFormed 0x52#8 0x15#8 = false := by
  decide

/-- R103, V171. -/
theorem test_wf_half_halt : bytesWellFormed 0x37#8 0x00#8 = false := by decide

/-- R8, U23: a system clock of 10 kHz or of 2 MHz is no chip of the spec; the one of State.reset is. -/
theorem test_wf_clock :
    Config.Chip.wellFormed { chipAtReset with fsysHz := 10000 } = false ∧
      Config.Chip.wellFormed { chipAtReset with fsysHz := 2000000 } = false ∧
      Config.Chip.wellFormed chipAtReset = true := by decide

/-! ## Decoding: one word of every row of the opcode table, written out from its encoding -/

theorem test_decode_arithmetic_8 :
    reads 8 [(0b00001000, .adcAM10), (0b00001001, .addAM10), (0b00001010, .sbcAM10), (0b00001011, .subAM10),
     (0b00110110, .daa)] = true := by decide

theorem test_decode_arithmetic_16 :
    reads 16 [(0b0100000000001001, (.addAX 0b1001#4)), (0b0100000100001001, (.subAX 0b1001#4))] = true := by decide

theorem test_decode_logic_8 :
    reads 8 [(0b00011010, .andAM10), (0b00011011, .xorAM10), (0b00011100, .orAM10), (0b00011101, .andM10A),
     (0b00011110, .xorM10A), (0b00011111, .orM10A)] = true := by decide

theorem test_decode_logic_16 :
    reads 16 [(0b0100001000001001, (.andAX 0b1001#4)), (0b0100001100001001, (.xorAX 0b1001#4)),
     (0b0100010000001001, (.orAX 0b1001#4))] = true := by decide

theorem test_decode_incdec_8 :
    reads 8 [(0b00001100, .incM10), (0b00001101, .decM10), (0b00001110, .incM32), (0b00001111, .decM32),
     (0b00010000, .incR0),
     (0b00010001, .decR0), (0b00010010, .incR1), (0b00010011, .decR1), (0b00010100, .incR2), (0b00010101, .decR2),
     (0b00010110, .incR3), (0b00010111, .decR3), (0b00011000, .incR4), (0b00011001, .decR4), (0b00110001, .incA),
     (0b00111111, .decA)] = true := by decide

theorem test_decode_datamove_8 :
    reads 8 [(0b00000100, .movAM10), (0b00000101, .movM10A), (0b00000110, .movAM32), (0b00000111, .movM32A),
     (0b00100000, .movR0A), (0b00100001, .movAR0), (0b00100010, .movR1A), (0b00100011, .movAR1),
     (0b00100100, .movR2A), (0b00100101, .movAR2), (0b00100110, .movR3A), (0b00100111, .movAR3),
     (0b00101000, .movR4A), (0b00101001, .movAR4), (0b01111001, (.movAX 0b1001#4))] = true := by decide

theorem test_decode_datamove_16 :
    reads 16 [(0b0100011000001001, (.movR4X 0b1001#4)), (0b0101010100001100, (.movR1R0X 0b0101#4 0b1100#4)),
     (0b0110010100001100, (.movR3R2X 0b0101#4 0b1100#4))] = true := by decide

theorem test_decode_rotate_io_8 :
    reads 8 [(0b00000000, .rrA), (0b00000001, .rlA), (0b00000010, .rrcA), (0b00000011, .rlcA), (0b00110000, .outPaA),
     (0b00110011, .inAPs), (0b00110100, .inAPp)] = true := by decide

theorem test_decode_branch_16 :
    reads 16 [(0b1000010100000110, (.ja0 0b10100000110#11)), (0b1000110100000110, (.ja1 0b10100000110#11)),
     (0b1001010100000110, (.ja2 0b10100000110#11)), (0b1001110100000110, (.ja3 0b10100000110#11)),
     (0b1010010100000110, (.jnzR0 0b10100000110#11)), (0b1010110100000110, (.jnzR1 0b10100000110#11)),
     (0b1011010100000110, (.jzA 0b10100000110#11)), (0b1011110100000110, (.jnzA 0b10100000110#11)),
     (0b1100010100000110, (.jc 0b10100000110#11)), (0b1100110100000110, (.jnc 0b10100000110#11)),
     (0b1101010100000110, (.jtmr 0b10100000110#11)), (0b1101110100000110, (.jnzR4 0b10100000110#11)),
     (0b1110101000001101, (.jmp 0b101000001101#12))] = true := by decide

theorem test_decode_subroutine_8 :
    reads 8 [(0b00101010, .clc), (0b00101011, .stc), (0b00101100, .ei), (0b00101101, .di), (0b00101110, .ret),
     (0b00101111, .reti), (0b00111110, .nop)] = true := by decide

theorem test_decode_subroutine_16 :
    reads 16 [(0b1111101000001101, (.call 0b101000001101#12))] = true := by decide

theorem test_decode_timer_8 :
    reads 8 [(0b00111000, .timerOn), (0b00111001, .timerOff), (0b00111010, .movATmrl), (0b00111011, .movATmrh),
     (0b00111100, .movTmrlA), (0b00111101, .movTmrhA)] = true := by decide

theorem test_decode_timer_16 :
    reads 16 [(0b0100011111110001, (.timerX 0b11110001#8))] = true := by decide

theorem test_decode_tableread_8 :
    reads 8 [(0b01001100, .readR4a), (0b01001101, .readfR4a), (0b01001110, .readMr0a),
     (0b01001111, .readfMr0a)] = true := by decide

theorem test_decode_sound_halt_8 :
    reads 8 [(0b01001000, .soundOne), (0b01001001, .soundLoop), (0b01001010, .soundOff),
     (0b01001011, .soundA)] = true := by decide

theorem test_decode_sound_halt_16 :
    reads 16 [(0b0011011100111110, .halt), (0b0100010100001001, (.soundN 0b1001#4))] = true := by decide

/-- X3, X4: the first byte alone decides the length. -/
theorem test_decode_x3_x4 :
    decodeBytes [0x37#8, 0x3E#8, 0x3E#8] = .ok .halt ∧ decodeBytes [0x3E#8] = .ok .nop ∧
      decodeBytes [0x45#8, 0x0C#8, 0x48#8] = .ok (.soundN 12#4) ∧ decodeBytes [0x48#8] = .ok .soundOne := by decide

/-- X12, V21, V171: refused by name. -/
theorem test_decode_refuses :
    decode 0x32#8 0x00#8 = .error (.undefinedOpcode 0x32#8) ∧
      decode 0x40#8 0x19#8 = .error (.reservedOperand 0x40#8 0x19#8) ∧
      decode 0x37#8 0x00#8 = .error (.reservedOperand 0x37#8 0x00#8) := by decide

/-- The encoder on two instructions of the source's printed codes (V113, V127). -/
theorem test_encode : encode (.ja3 0x750#11) = [0x9F#8, 0x50#8] ∧ encode (.call 0x400#12) = [0xF4#8, 0x00#8] := by decide

/-! ## Results, one instruction each -/

/-- V1. -/
theorem test_add : gives (exec .addAM10 (at25 9#4 false 8#4)) (fun t => t.acc == 1#4 && t.c && t.pc == 0x101#12) = true := by
  decide

/-- V3: C is cleared, not an input. -/
theorem test_add_clears_carry : gives (exec .addAM10 (at25 6#4 true 0#4)) (fun t => t.acc == 6#4 && !t.c) = true := by decide

/-- V5. -/
theorem test_adc : gives (exec .adcAM10 (at25 7#4 true 8#4)) (fun t => t.acc == 0#4 && t.c) = true := by decide

/-- V9, V10. -/
theorem test_sub :
    gives (exec .subAM10 (at25 3#4 true 5#4)) (fun t => t.acc == 0xE#4 && !t.c) = true ∧
      gives (exec .subAM10 (at25 5#4 false 5#4)) (fun t => t.acc == 0#4 && t.c) = true := by decide

/-- V13, V17. -/
theorem test_sbc :
    gives (exec .sbcAM10 (at25 5#4 false 3#4)) (fun t => t.acc == 1#4 && t.c) = true ∧
      gives (exec .sbcAM10 (at25 3#4 false 3#4)) (fun t => t.acc == 0xF#4 && !t.c) = true := by decide

/-- V18, V25. -/
theorem test_immediate_arithmetic :
    gives (exec (.addAX 9#4) (at25 8#4 false 0#4)) (fun t => t.acc == 1#4 && t.c && t.pc == 0x102#12) = true ∧
      gives (exec (.subAX 6#4) (at25 2#4 true 0#4)) (fun t => t.acc == 0xC#4 && !t.c) = true := by decide

/-- V28, V29. -/
theorem test_daa :
    gives (exec .daa (at25 9#4 false 0#4)) (fun t => t.acc == 9#4 && !t.c) = true ∧
      gives (exec .daa (at25 0xF#4 true 0#4)) (fun t => t.acc == 5#4 && t.c) = true := by decide

/-- V32, V33, V34. -/
theorem test_logic_acc :
    gives (exec .andAM10 (at25 0xC#4 true 0xA#4)) (fun t => t.acc == 8#4 && t.c) = true ∧
      gives (exec .orAM10 (at25 0xC#4 true 0xA#4)) (fun t => t.acc == 0xE#4) = true ∧
      gives (exec .xorAM10 (at25 0xC#4 false 0xA#4)) (fun t => t.acc == 6#4) = true := by decide

/-- V38, V40: the display area is ordinary RAM. -/
theorem test_logic_memory :
    gives (exec .xorM10A (at25 0xF#4 false 9#4)) (fun t => t.ram == [(0x25, 6#4)] && t.acc == 0xF#4) = true ∧
      gives (exec .andM10A (start 0xB0#8 6#4 false 0xF#4)) (fun t => t.ram == [(0xB0, 6#4)]) = true := by decide

/-- V41, V43, V44. -/
theorem test_logic_immediate :
    gives (exec (.andAX 6#4) (at25 0xB#4 false 0#4)) (fun t => t.acc == 2#4) = true ∧
      gives (exec (.orAX 8#4) (at25 1#4 false 0#4)) (fun t => t.acc == 9#4) = true ∧
      gives (exec (.xorAX 0xF#4) (at25 0xA#4 false 0#4)) (fun t => t.acc == 5#4) = true := by decide

/-- V46, V57, V53, V63. -/
theorem test_incdec :
    gives (exec .incA (at25 0xF#4 false 0#4)) (fun t => t.acc == 0#4 && !t.c) = true ∧
      gives (exec .decR0 (start 0x20#8 0#4 false 0#4)) (fun t => t.r.r0 == 0xF#4 && t.r.r1 == 2#4) = true ∧
      gives (exec .incM10 (at25 0#4 false 0xF#4)) (fun t => t.ram == [(0x25, 0#4)]) = true ∧
      gives (exec .decM32 (start 0x9F#8 0#4 false 0xA#4)) (fun t => t.ram == [(0x9F, 9#4)]) = true := by decide

/-- V67, V70, V72. -/
theorem test_moves :
    gives (exec .movR3A (at25 4#4 false 0#4)) (fun t => t.r == ⟨5#4, 2#4, 5#4, 4#4, 0#4⟩) = true ∧
      gives (exec .movAM32 (start 0xB0#8 0#4 false 9#4)) (fun t => t.acc == 9#4) = true ∧
      gives (exec .movM32A (start 0xFE#8 1#4 false 0#4)) (fun t => t.ram == [(0xFE, 1#4)]) = true := by decide

/-- V78, V79: the open byte order, both ways. -/
theorem test_mov_r1r0 :
    gives (exec (.movR1R0X 2#4 5#4) State.reset) (fun t => t.r == ⟨5#4, 2#4, 0#4, 0#4, 0#4⟩ && t.pc == 0x002#12) = true ∧
      gives (exec (.movR1R0X 2#4 5#4) { State.reset with chip.imm8Order := .firstLow })
        (fun t => t.r == ⟨2#4, 5#4, 0#4, 0#4, 0#4⟩) = true := by decide

/-- V81, V84. -/
theorem test_mov_r3r2_r4 :
    gives (exec (.movR3R2X 0xB#4 4#4) State.reset) (fun t => t.r == ⟨0#4, 0#4, 4#4, 0xB#4, 0#4⟩) = true ∧
      gives (exec (.movR4X 0xA#4) State.reset) (fun t => t.r == ⟨0#4, 0#4, 0#4, 0#4, 0xA#4⟩) = true := by decide

/-- V86, V88, V90, V93. -/
theorem test_rotates :
    gives (exec .rlA (at25 9#4 false 0#4)) (fun t => t.acc == 3#4 && t.c) = true ∧
      gives (exec .rlcA (at25 9#4 false 0#4)) (fun t => t.acc == 2#4 && t.c) = true ∧
      gives (exec .rrA (at25 9#4 false 0#4)) (fun t => t.acc == 0xC#4 && t.c) = true ∧
      gives (exec .rrcA (at25 2#4 true 0#4)) (fun t => t.acc == 9#4 && !t.c) = true := by decide

/-- V95, V96: driven pins; and R40: pins that are not driven read 1 with the pull-high option. -/
theorem test_ports :
    gives (exec .inAPs { State.reset with pins.ps := ⟨0xF#4, 0xB#4⟩ }) (fun t => t.acc == 0xB#4) = true ∧
      gives (exec .inAPp { State.reset with pins.pp := ⟨0x6#4, 0x4#4⟩ }) (fun t => t.acc == 0xD#4) = true := by decide

/-- V97: the bank changes for the next fetch. -/
theorem test_out_pa :
    gives (exec .outPaA { State.reset with pc := 0x010#12, acc := 6#4 })
      (fun t => t.pa == 6#4 && t.physical t.pc == 0x0011#13) = true := by decide

/-- V105, V115, V116, V120: bit 11 is that of the next instruction's address. -/
theorem test_conditional_half :
    gives (exec (.jc 0x345#11) { State.reset with pc := 0x810#12, c := true }) (fun t => t.pc == 0xB45#12) = true ∧
      gives (exec (.jzA 0x123#11) { State.reset with pc := 0x7FE#12 }) (fun t => t.pc == 0x923#12) = true ∧
      gives (exec (.jzA 0x123#11) { State.reset with pc := 0x7FD#12 }) (fun t => t.pc == 0x123#12) = true ∧
      gives (exec (.jnzA 0x7FF#11) { State.reset with pc := 0xFFE#12, acc := 3#4 }) (fun t => t.pc == 0x7FF#12) = true := by
  decide

/-- V108, V110, V111, V112, V114, V123. -/
theorem test_conditions :
    gives (exec (.jtmr 0x180#11) { State.reset with tf := true }) (fun t => t.pc == 0x180#12 && !t.tf) = true ∧
      gives (exec (.ja0 0x050#11) { State.reset with acc := 4#4 }) (fun t => t.pc == 0x002#12) = true ∧
      gives (exec (.ja1 0x050#11) { State.reset with acc := 2#4 }) (fun t => t.pc == 0x050#12) = true ∧
      gives (exec (.ja2 0x050#11) { State.reset with acc := 4#4 }) (fun t => t.pc == 0x050#12) = true ∧
      gives (exec (.ja3 0x750#11) { State.reset with acc := 7#4 }) (fun t => t.pc == 0x002#12) = true ∧
      gives (exec (.jnzR0 0x015#11) State.reset) (fun t => t.pc == 0x002#12) = true := by decide

/-- V129: the return address wraps; STK.c is not written. -/
theorem test_call :
    gives (exec (.call 0x000#12) { State.reset with pc := 0xFFE#12 })
      (fun t => t.pc == 0x000#12 && t.subf && t.stk == ⟨0x000#12, false, true, false⟩) = true := by decide

/-- V128, V132. -/
theorem test_call_and_return_stops :
    stops (exec (.call 0x400#12) { State.reset with pc := 0x020#12, subf := true }) (.nestedCall 0x020#12) = true ∧
      stops (exec .ret { State.reset with pc := 0x400#12 }) (.stackUnwritten 0x400#12) = true := by decide

/-- V130, V133: RET keeps C, RETI restores it. -/
theorem test_returns :
    gives (exec .ret { State.reset with stk := ⟨0x022#12, false, true, false⟩, subf := true, c := true })
        (fun t => t.pc == 0x022#12 && t.c && !t.subf) = true ∧
      gives (exec .reti { State.reset with stk := ⟨0x105#12, true, true, true⟩, subf := true, ie := true })
        (fun t => t.pc == 0x105#12 && t.c && !t.subf && t.ie) = true := by decide

/-- V142, V148, V149, V150. -/
theorem test_timer_registers :
    gives (exec (.timerX 0xF0#8) { State.reset with tf := true }) (fun t => t.tmr == 0xF0#8 && t.tf) = true ∧
      gives (exec .movATmrh { State.reset with tmr := 0xA7#8 }) (fun t => t.acc == 0xA#4) = true ∧
      gives (exec .movTmrlA { State.reset with tmr := 0xA7#8 }) (fun t => t.tmr == 0xA0#8) = true ∧
      gives (exec .movTmrhA { State.reset with tmr := 0xA7#8, acc := 0xF#4 }) (fun t => t.tmr == 0xF7#8) = true := by decide

/-- V156: at the page margin the page of the next instruction is used. -/
theorem test_read_r4a :
    gives (exec .readR4a { start 0x10#8 2#4 false 7#4 with pc := 0x3FF#12, pa := 7#4, rom := [(0x0427, 0x6B#8)] })
      (fun t => t.pc == 0x400#12 && t.acc == 0xB#4 && t.r.r4 == 6#4) = true := by decide

/-- V158, V162. -/
theorem test_read_mr0a :
    gives (exec .readMr0a { start 0x20#8 0#4 false 0#4 with pc := 0x2FF#12, r.r4 := 1#4, rom := [(0x1301, 0x3C#8)] })
        (fun t => t.acc == 0xC#4 && t.ram == [(0x20, 3#4)]) = true ∧
      gives (exec .readfMr0a { start 0xFE#8 4#4 false 0#4 with pa := 7#4, rom := [(0x0F40, 0x9E#8)] })
        (fun t => t.acc == 0xE#4 && t.ram == [(0xFE, 9#4)]) = true := by decide

/-- V163, V165, V168. -/
theorem test_sound :
    gives (exec (.soundN 12#4) { State.reset with snd.loop := true }) (fun t => t.snd == ⟨true, 12#4, true⟩) = true ∧
      gives (exec .soundA { State.reset with acc := 3#4, snd := ⟨true, 9#4, false⟩ })
        (fun t => t.snd == ⟨true, 3#4, false⟩) = true ∧
      gives (exec .soundOff { State.reset with snd := ⟨true, 7#4, true⟩ }) (fun t => t.snd == ⟨false, 7#4, true⟩) = true := by
  decide

/-- V4, V55, V159: A0H-AFH cannot be used. -/
theorem test_undefined_ram :
    stops (exec .addAM10 (start 0xA0#8 1#4 false 0#4)) (.undefinedRam 0xA0#8) = true ∧
      stops (exec .incM32 (start 0xA8#8 0#4 false 0#4)) (.undefinedRam 0xA8#8) = true ∧
      stops (exec .readMr0a (start 0xAF#8 0#4 false 0#4)) (.undefinedRam 0xAF#8) = true := by decide

/-! ## Steps -/

/-- V151, V152: the timer with TIMER_DIV = 2. -/
theorem test_timer_overflow :
    gives (step { nops with tmr := 0xFF#8, ton := true }) (fun t => t.tf && t.tmr == 0x00#8 && t.pc == 0x101#12) = true ∧
      gives (step { withBytes State.reset 0x100#12 0xE1#8 0x00#8 with tmr := 0xFE#8, ton := true })
        (fun t => t.tf && t.tmr == 0x00#8 && t.pc == 0x100#12) = true := by decide

/-- V144, V145: `TIMER ON` with TIMER_DIV = 2 and 7. -/
theorem test_timer_on :
    gives (step { withBytes State.reset 0x100#12 0x38#8 0x00#8 with tmr := 0xFE#8 }) (fun t => t.ton && t.tmr == 0xFF#8) = true ∧
      gives (step { withBytes State.reset 0x100#12 0x38#8 0x00#8 with tmr := 0xFE#8, chip.timerDiv := .n7 })
        (fun t => t.ton && t.tmr == 0xFE#8 && t.phase == 4) = true := by decide

/-- V170: the timer does not count in the HALT instruction. -/
theorem test_halt_stops_timer :
    gives (step { withBytes State.reset 0xFFE#12 0x37#8 0x3E#8 with ton := true, tmr := 0x80#8 })
      (fun t => t.halted && t.pc == 0x000#12 && t.tmr == 0x80#8) = true := by decide

/-- X13, U17: the second byte of an instruction at FFFH is at 000H of the same bank (V121). -/
theorem test_fetch_wraps :
    gives (step { withBytes State.reset 0xFFF#12 0xBF#8 0xFF#8 with acc := 3#4 }) (fun t => t.pc == 0x7FF#12) = true := by decide

/-- V172, V171. -/
theorem test_step_stops :
    stops (step (withBytes State.reset 0x100#12 0x32#8 0x00#8)) (.undefinedOpcode 0x100#12 0x32#8) = true ∧
      stops (step (withBytes State.reset 0x040#12 0x37#8 0x00#8)) (.reservedOperand 0x040#12 0x37#8 0x00#8) = true := by decide

/-- S1, S2. -/
theorem test_interrupt_entries :
    gives (step { nops with ie := true, tf := true, c := true, acc := 5#4 })
        (fun t => t.pc == 0x004#12 && t.stk == ⟨0x100#12, true, true, true⟩ && t.subf && !t.tf && t.ie) = true ∧
      gives (step { nops with ie := true, exf := true })
        (fun t => t.pc == 0x008#12 && t.stk == ⟨0x100#12, false, true, true⟩ && t.subf && !t.exf) = true := by decide

/-- S3, S4: held. -/
theorem test_interrupt_held :
    gives (step { nops with tf := true }) (fun t => t.pc == 0x101#12 && t.tf) = true ∧
      gives (step { nops with ie := true, tf := true, subf := true }) (fun t => t.pc == 0x101#12 && t.tf) = true := by decide

/-- S5, S6. -/
theorem test_interrupt_priority :
    gives (step { nops with ie := true, tf := true, exf := true }) (fun t => t.pc == 0x004#12 && t.exf) = true ∧
      gives (step { nops with ie := true, tf := true, exf := true, chip.intPriority := .externalFirst })
        (fun t => t.pc == 0x008#12 && t.tf) = true := by decide

/-- S11, S15: halted, and a timer flag alone does not wake the chip. -/
theorem test_halted :
    gives (step { nops with halted := true, ie := true, tf := true }) (fun t => t.halted && t.pc == 0x100#12) = true := by decide

/-- S12, S13: a falling edge of a WAKE pin. -/
theorem test_wake_up :
    gives (step { nops with halted := true, ie := true, c := true, env := [fall] })
        (fun t => t.pc == 0x008#12 && t.stk == ⟨0x100#12, true, true, true⟩ && !t.halted && !t.exf) = true ∧
      gives (step { nops with halted := true, env := [fall] }) (fun t => t.pc == 0x101#12 && t.exf && !t.halted) = true := by
  decide

/-- R235: outside HALT the same edge sets nothing. -/
theorem test_edge_while_running :
    gives (step { nops with ie := true, env := [fall] }) (fun t => t.pc == 0x101#12 && !t.exf) = true := by decide

/-- R270, R44: a reset pulse, whatever the state. -/
theorem test_reset_pulse :
    gives (step { nops with halted := true, tf := true, ie := true, pa := 0#4, env := [.resetPulse] })
      (fun t => t.physical t.pc == 0x1000#13 && t.pa == 0xF#4 && !t.halted && !t.tf && !t.ie) = true := by decide

/-- R37: the end of a sound clears SND.on in SONE mode only. -/
theorem test_sound_ends :
    gives (step { nops with snd := ⟨true, 2#4, false⟩, env := [.soundEnds] }) (fun t => !t.snd.on) = true ∧
      gives (step { nops with snd := ⟨true, 2#4, true⟩, env := [.soundEnds] }) (fun t => t.snd.on) = true := by decide

/-- The first steps of P5 and P3: words placed where the machine fetches run as its first instruction after reset. -/
theorem test_placed_words_run :
    gives (step (State.reset.withFetchWord 16 0xE010)) (fun t => t.pc == 0x010#12) = true ∧
      gives (step (State.reset.withFetchWord 8 0x73)) (fun t => t.acc == 3#4 && t.pc == 0x001#12) = true := by decide

/-! ## What the outside sees -/

/-- R67: the four corners of the display area. -/
theorem test_lcd_corners :
    lcdAddr 0 0 = 0xFF#8 ∧ lcdAddr 0 7 = 0xFE#8 ∧ lcdAddr 39 0 = 0xB1#8 ∧ lcdAddr 39 7 = 0xB0#8 := by decide

/-- R287: 4.0 us at 1 MHz; R172: V98's pads PA2..PA0 are H, L, H. -/
theorem test_cycle_and_pads :
    machineCycleNs chipAtReset = 4000 ∧ portAPads { State.reset with pa := 0xD#4 } = (.high, .low, .high) := by decide

/-- R106: the spelling of operands of the kinds of V113 and V18. -/
theorem test_spelling :
    spelling .firstHigh 0x000#12 (.ja3 0x750#11) = "JA3 750H" ∧ spelling .firstHigh 0x000#12 (.addAX 0xA#4) = "ADD A,0AH" := by
  decide

/-! ## Witnesses: a concrete state for the hypotheses of each statement, with boundary values -/

theorem witness_ResetPulseGivesTheListedValues :
    ({ nops with halted := true, env := [.resetPulse, fall] } : State).env = .resetPulse :: [fall] := rfl

theorem witness_EveryStepKeepsTheInvariant :
    State.Inv { nops with ton := true, phase := 3, ram := [(0x00, 1#4), (0x9F, 2#4), (0xB0, 3#4), (0xFF, 4#4)] } ∧
      ∃ t, step { nops with ton := true, phase := 3, ram := [(0x00, 1#4), (0x9F, 2#4), (0xB0, 3#4), (0xFF, 4#4)] } = .next t ∧
        (t.pc == 0x101#12) = true :=
  ⟨by decide, gives_next (by decide)⟩

/-- With no event, and outside HALT with each kind of event. -/
theorem witness_StepRunsTheDecodedInstruction :
    resetDue nops = false ∧ (takeEvent nops).halted = false ∧ interruptDue (takeEvent nops) = none ∧ nops.env = [] ∧
      Fetches nops .nop ∧ nops.halted = false ∧
      (∀ e ∈ [Event.idle, fall, .soundEnds], let s : State := { nops with env := [e] }
        resetDue s = false ∧ s.halted = false ∧ (takeEvent s).halted = false ∧ interruptDue (takeEvent s) = none) := by
  refine ⟨rfl, rfl, rfl, rfl, rfl, rfl, ?_⟩
  decide

theorem witness_StepRunsTheDecodedInstruction_stops :
    (let s := withBytes State.reset 0xFFF#12 0x35#8 0x00#8
     resetDue s = false ∧ (takeEvent s).halted = false ∧ interruptDue (takeEvent s) = none ∧
        decode (fetch (takeEvent s)).1 (fetch (takeEvent s)).2 = .error (.undefinedOpcode 0x35#8)) ∧
    (let s := withBytes State.reset 0xFFF#12 0x6F#8 0x10#8
     resetDue s = false ∧ (takeEvent s).halted = false ∧ interruptDue (takeEvent s) = none ∧
        decode (fetch (takeEvent s)).1 (fetch (takeEvent s)).2 = .error (.reservedOperand 0x6F#8 0x10#8)) := by
  decide

/-- Also where an interrupt is due, the chip is halted and PC is the last address. -/
theorem witness_PlacedWordRunsNext :
    ({ State.reset with pc := 0xFFF#12, ie := true, tf := true, halted := true } : State).env = [] ∧
      decodeTableWord 16 0x4009 = some (.addAX 9#4) := by decide

theorem witness_DecodedBytesAreTheEncoding :
    decode 0x40#8 0x0F#8 = .ok (.addAX 0xF#4) ∧ decode 0x4F#8 0xFF#8 = .ok .readfMr0a := by decide

theorem witness_DecoderRefusesExactlyIllFormedBytes :
    bytesWellFormed 0x46#8 0x0F#8 = true ∧ firstByteAssigned 0x32#8 = false ∧
      firstByteAssigned 0x46#8 = true ∧ secondByteLegal 0x46#8 0x10#8 = false := by decide

/-- The bytes on either side of each boundary of R90. -/
theorem witness_FirstByteDecidesTheLength :
    decode 0x36#8 0x3E#8 = .ok .daa ∧ decode 0x37#8 0x3E#8 = .ok .halt ∧ decode 0x3F#8 0x00#8 = .ok .decA ∧
      decode 0x47#8 0x00#8 = .ok (.timerX 0#8) ∧ decode 0x4F#8 0x00#8 = .ok .readfMr0a ∧
      decode 0x50#8 0x00#8 = .ok (.movR1R0X 0#4 0#4) ∧ decode 0x6F#8 0x00#8 = .ok (.movR3R2X 0xF#4 0#4) ∧
      decode 0x7F#8 0x00#8 = .ok (.movAX 0xF#4) ∧ decode 0x80#8 0x00#8 = .ok (.ja0 0#11) ∧
      decode 0xFF#8 0xFF#8 = .ok (.call 0xFFF#12) := by decide

theorem witness_CyclesOfEveryInstruction :
    (Instr.readR4a = .readR4a) ∧
      ¬(Instr.nop = .readR4a ∨ Instr.nop = .readMr0a ∨ Instr.nop = .readfR4a ∨ Instr.nop = .readfMr0a) := by decide

/-- The ends of the usable ranges and of the hole; also the pointers of LoadsAndStoresThroughPointers and of every other
statement with a usable address. -/
theorem witness_CellReadsTheLastValueWritten :
    Usable 0x00#8 ∧ Usable 0x9F#8 ∧ Usable 0xB0#8 ∧ Usable 0xFF#8 ∧ ¬Usable 0xA0#8 ∧ ¬Usable 0xAF#8 := by
  unfold Usable; decide

theorem witness_usable_dp10 :
    Usable (dp10 (start 0x00#8 9#4 true 7#4)) ∧ Usable (dp10 (start 0x9F#8 9#4 true 7#4)) ∧
      Usable (dp10 (start 0xB0#8 9#4 true 7#4)) ∧ Usable (dp10 (start 0xFF#8 9#4 true 7#4)) := by
  unfold Usable; decide

theorem witness_usable_dp32 :
    Usable (dp32 (start 0x00#8 9#4 true 7#4)) ∧ Usable (dp32 (start 0x9F#8 9#4 true 7#4)) ∧
      Usable (dp32 (start 0xB0#8 9#4 true 7#4)) ∧ Usable (dp32 (start 0xFF#8 9#4 true 7#4)) := by
  unfold Usable; decide

theorem witness_AdditionResultAndCarry : Usable (dp10 (at25 9#4 false 8#4)) := by unfold Usable; decide

theorem witness_SubtractionResultAndBorrow : Usable (dp10 (at25 3#4 false 5#4)) := by unfold Usable; decide

theorem witness_DecimalAdjustResult :
    9 < (at25 0xA#4 false 0#4).acc.toNat ∧ (at25 0#4 true 0#4).c = true ∧
      ¬(9 < (at25 9#4 false 0#4).acc.toNat ∨ (at25 9#4 false 0#4).c = true) := by decide

theorem witness_DecimalAdditionOfDigits :
    Usable (dp10 (at25 9#4 true 9#4)) ∧ (at25 9#4 true 9#4).acc.toNat ≤ 9 ∧
      ((at25 9#4 true 9#4).cell (dp10 (at25 9#4 true 9#4))).toNat ≤ 9 := by
  unfold Usable; decide

theorem witness_LogicOnTheAccumulator : Usable (dp10 (at25 0xC#4 true 0xA#4)) := by unfold Usable; decide

theorem witness_LogicOnMemory : Usable (dp10 (start 0xB0#8 6#4 false 0xF#4)) := by unfold Usable; decide

theorem witness_IncrementAndDecrementMemory :
    Usable (dp10 (at25 0#4 false 0xF#4)) ∧ Usable (dp32 (start 0x9F#8 0#4 false 0xA#4)) := by unfold Usable; decide

theorem witness_LoadsAndStoresThroughPointers :
    Usable (dp10 (start 0x9F#8 0#4 false 2#4)) ∧ Usable (dp32 (start 0xFE#8 1#4 false 0#4)) := by unfold Usable; decide

theorem witness_ImmediateLoadsOfPointersAndR4 :
    State.reset.chip.imm8Order = .firstHigh ∧
      ({ State.reset with chip.imm8Order := .firstLow } : State).chip.imm8Order = .firstLow := ⟨rfl, rfl⟩

theorem witness_CallPushesOrFaults :
    State.reset.subf = false ∧ ({ State.reset with subf := true } : State).subf = true := ⟨rfl, rfl⟩

theorem witness_ReturnsRestoreOrFault :
    ({ State.reset with stk := ⟨0x105#12, true, true, true⟩ } : State).stk.written = true ∧
      ({ State.reset with stk := ⟨0x105#12, true, true, true⟩ } : State).stk.cWritten = true ∧
      ({ State.reset with stk := ⟨0x105#12, true, true, false⟩ } : State).stk.written = true ∧
      ({ State.reset with stk := ⟨0x105#12, true, true, false⟩ } : State).stk.cWritten = false ∧
      State.reset.stk.written = false := ⟨rfl, rfl, rfl, rfl, rfl⟩

/-- The premise on the later state is met by a state that went on at the called address with another ACC; STK.c written by
an entry before the CALL, and never. -/
theorem witness_CallThenReturn :
    nops.subf = false ∧ nops.stk.cWritten = false ∧
      ({ nops with stk := ⟨0x105#12, true, true, true⟩ } : State).stk.cWritten = true ∧
      ∃ t, exec (.call 0x400#12) nops = .next t ∧
        ((({ t with acc := 7#4, pc := 0x408#12 } : State).stk == t.stk) && t.pc == 0x400#12) = true :=
  ⟨rfl, rfl, rfl,
    gives_next (p := fun t => (({ t with acc := 7#4, pc := 0x408#12 } : State).stk == t.stk) && t.pc == 0x400#12)
    (by decide)⟩

/-- Each flag alone, and both under each priority. -/
theorem witness_EiLetsAPendingInterruptInAtOnce :
    nops.env = [] ∧ nops.halted = false ∧ nops.subf = false ∧
      (let s : State := { nops with tf := true }
       s.tf = true ∧ s.exf = false) ∧
      (let s : State := { nops with exf := true }
       s.exf = true ∧ s.tf = false) ∧
      (let s : State := { nops with tf := true, exf := true }
       s.tf = true ∧ s.exf = true ∧ s.chip.intPriority = .timerFirst) ∧
      (let s : State := { nops with tf := true, exf := true, chip.intPriority := .externalFirst }
       s.tf = true ∧ s.exf = true ∧ s.chip.intPriority = .externalFirst) := by decide

theorem witness_TimerRunsByOscillatorPeriods :
    ({ nops with ton := true } : State).ton = true ∧ nops.halted = false ∧ ¬(nops.ton = true ∧ nops.halted = false) := by
  decide

theorem witness_TableReadsIntoR4 : Usable (dp10 (start 0x10#8 2#4 false 7#4)) := by unfold Usable; decide

theorem witness_TableReadsIntoMemory : Usable (dp10 (start 0xFE#8 4#4 false 0#4)) := by unfold Usable; decide

/-- No event; a change of pins without a falling edge (PS0 rises); the end of a sound. -/
theorem witness_HaltedChipStaysAsItIs :
    (let s : State := { nops with halted := true, pins := ⟨⟨0xF#4, 0xE#4⟩, ⟨0xF#4, 0xF#4⟩⟩ }
     let p : Pins := ⟨⟨0xF#4, 0xF#4⟩, ⟨0xF#4, 0xF#4⟩⟩
     s.halted = true ∧ resetDue { s with env := [.pinsChange p] } = false ∧
        wakeEdge s.chip.wake (pinLevels s) (pinLevels (withPins p s)) = false) ∧
    resetDue { nops with halted := true } = false ∧
    resetDue { nops with halted := true, env := [.soundEnds] } = false := by decide

/-- Each of the three clauses: no timer flag, a timer flag under each priority, interrupts disabled and held. -/
theorem witness_WakeUpResumesOrEntersTheInterrupt :
    (let s : State := { nops with halted := true, ie := true, env := [fall] }
     let p : Pins := ⟨⟨0xF#4, 0xE#4⟩, ⟨0xF#4, 0xF#4⟩⟩
     s.halted = true ∧ s.env = .pinsChange p :: [] ∧ s.ie = true ∧ s.subf = false ∧ s.tf = false ∧
        wakeEdge s.chip.wake (pinLevels s) (pinLevels (withPins p s)) = true ∧
        ({ s with tf := true } : State).chip.intPriority = .timerFirst ∧
        ({ s with tf := true, chip.intPriority := .externalFirst } : State).chip.intPriority = .externalFirst) ∧
    ({ nops with halted := true, env := [fall] } : State).ie = false ∧
    ({ nops with halted := true, ie := true, subf := true, env := [fall] } : State).subf = true := by decide

/-- R237 at a wake-up: with a timer flag pending each priority takes its own source and leaves the other pending. -/
theorem test_wake_up_priority :
    gives (step { nops with halted := true, ie := true, tf := true, env := [fall] })
        (fun t => t.pc == 0x004#12 && t.exf && !t.tf && t.stk.pc == 0x100#12) = true ∧
      gives (step { nops with halted := true, ie := true, tf := true, env := [fall], chip.intPriority := .externalFirst })
        (fun t => t.pc == 0x008#12 && !t.exf && t.tf && t.stk.pc == 0x100#12) = true := by decide

theorem witness_HaltWithoutWakeOptionIsForEver :
    (let s : State := { nops with halted := true, chip.wake := ⟨0#4, 0#4⟩, env := [fall, .soundEnds] }
     s.halted = true ∧ s.chip.wake = ⟨0#4, 0#4⟩ ∧ Event.resetPulse ∉ s.env) := by decide

/-- Each of the three clauses, both ways of each alternative, and each kind of event before the boundary. -/
theorem witness_InterruptEntrySavesAndVectors :
    resetDue nops = false ∧ nops.env = [] ∧ nops.halted = false ∧
    (∀ e ∈ [Event.idle, fall, .soundEnds],
      resetDue { nops with env := [e], ie := true, tf := true, snd := ⟨true, 0#4, false⟩ } = false) ∧
    (let s : State := { nops with ie := true, tf := true }
     s.ie = true ∧ s.subf = false ∧ s.tf = true ∧ s.exf = false) ∧
    (let s : State := { nops with ie := true, tf := true, exf := true }
     s.ie = true ∧ s.subf = false ∧ s.tf = true ∧ s.chip.intPriority = .timerFirst) ∧
    (let s : State := { nops with ie := true, exf := true }
     s.ie = true ∧ s.subf = false ∧ s.exf = true ∧ s.tf = false) ∧
    (let s : State := { nops with ie := true, tf := true, exf := true, chip.intPriority := .externalFirst }
     s.ie = true ∧ s.subf = false ∧ s.exf = true ∧ s.chip.intPriority = .externalFirst) ∧
    nops.ie = false ∧ ({ nops with ie := true, subf := true } : State).subf = true ∧
    (({ nops with ie := true } : State).tf = false ∧ ({ nops with ie := true } : State).exf = false) := by decide

theorem witness_ServiceRoutineReturnsToTheInterrupted :
    (let s : State := { nops with c := true }
     let v : State := { interruptEntry .timer s with acc := 7#4, c := false, pc := 0x104#12 }
     v.stk = (interruptEntry .timer s).stk ∧ v.subf = true) := by decide

theorem witness_HeldInterruptsAreNotLost :
    resetDue { nops with subf := true, ie := true, tf := true, exf := true } = false ∧
      ∃ t, step { nops with subf := true, ie := true, tf := true, exf := true } = .next t ∧ (t.tf && t.exf) = true :=
  ⟨by decide, gives_next (by decide)⟩

theorem witness_OnlyListedInstructionsWriteCarry :
    writesCarry .incA = false ∧ (Instr.incA ≠ .outPaA) ∧
      ∃ t, exec .incA (at25 0xF#4 true 0#4) = .next t ∧ (t.c && t.acc == 0#4) = true :=
  ⟨by decide, by decide, gives_next (by decide)⟩

/-- A store through R1:R0 at 25H and the cells on either side of it. -/
theorem witness_StoresGoOnlyThroughThePointers :
    (∃ t, exec .movM10A (at25 7#4 false 0#4) = .next t ∧ (t.ram == [(0x25, 7#4)]) = true) ∧
      (0x24#8 : DataAddr) ≠ dp10 (at25 7#4 false 0#4) ∧ (0x26#8 : DataAddr) ≠ dp10 (at25 7#4 false 0#4) :=
  ⟨gives_next (by decide), by decide, by decide⟩

theorem witness_RomNeverChanges : ∃ t, step nops = .next t ∧ (t.pa.getLsbD 3 == nops.pa.getLsbD 3) = true :=
  gives_next (by decide)

/-- PA, IE, the stack register and SUBF (both ways) each change in a step without a reset. -/
theorem witness_ControlStateChangesOnlyWhereTheSpecSays :
    (∃ t, step (withBytes State.reset 0x010#12 0x30#8 0x00#8) = .next t ∧ (t.pa != 0xF#4) = true) ∧
      (∃ t, step (withBytes State.reset 0x010#12 0x2C#8 0x00#8) = .next t ∧ t.ie = true) ∧
      (∃ t, step (withBytes State.reset 0x010#12 0xF4#8 0x00#8) = .next t ∧ (t.stk != State.reset.stk && t.subf) = true) ∧
      (∃ t, step { withBytes State.reset 0x010#12 0x2E#8 0x00#8 with
        subf := true, stk := ⟨0x022#12, false, true, false⟩ } = .next t ∧ (!t.subf) = true) :=
  ⟨gives_next (by decide), gives_next (by decide), gives_next (by decide), gives_next (by decide)⟩

/-- TON set and cleared, TF set by an overflow at FFH, TMR loaded and counted, each in a step without a reset. -/
theorem witness_TimerStateChangesOnlyWhereTheSpecSays :
    (∃ t, step (withBytes State.reset 0x010#12 0x38#8 0x00#8) = .next t ∧ t.ton = true) ∧
      (∃ t, step { withBytes State.reset 0x010#12 0x39#8 0x00#8 with ton := true } = .next t ∧ (!t.ton) = true) ∧
      (∃ t, step { nops with ton := true, tmr := 0xFF#8 } = .next t ∧ (t.tf && t.tmr == 0x00#8) = true) ∧
      (∃ t, step { nops with ton := true, tmr := 0xFE#8 } = .next t ∧ (!t.tf && t.tmr == 0xFF#8) = true) ∧
      (∃ t, step (withBytes State.reset 0x010#12 0x47#8 0xF0#8) = .next t ∧ (t.tmr == 0xF0#8) = true) :=
  ⟨gives_next (by decide), gives_next (by decide), gives_next (by decide), gives_next (by decide), gives_next (by decide)⟩

/-- HALTED set by HALT and cleared by an edge, EXF set by that edge and cleared by its entry. -/
theorem witness_HaltAndLatchChangeOnlyWhereTheSpecSays :
    (∃ t, step (withBytes State.reset 0x010#12 0x37#8 0x3E#8) = .next t ∧ t.halted = true) ∧
      (∃ t, step { nops with halted := true, env := [fall] } = .next t ∧ (!t.halted && t.exf) = true) ∧
      (∃ t, step { nops with ie := true, exf := true } = .next t ∧ (!t.exf) = true) :=
  ⟨gives_next (by decide), gives_next (by decide), gives_next (by decide)⟩

/-- SND.ch and SND.on by SOUND 12, SND.loop by SOUND LOOP, SND.on cleared by SOUND OFF and by the end of a sound. -/
theorem witness_SoundStateChangesOnlyWhereTheSpecSays :
    (∃ t, step (withBytes State.reset 0x010#12 0x45#8 0x0C#8) = .next t ∧ (t.snd.on && t.snd.ch == 0xC#4) = true) ∧
      (∃ t, step (withBytes State.reset 0x010#12 0x49#8 0x00#8) = .next t ∧ t.snd.loop = true) ∧
      (∃ t, step { withBytes State.reset 0x010#12 0x4A#8 0x00#8 with snd := ⟨true, 5#4, true⟩ } = .next t ∧
        (!t.snd.on) = true) ∧
      (∃ t, step { nops with snd := ⟨true, 5#4, false⟩, env := [.soundEnds] } = .next t ∧ (!t.snd.on) = true) :=
  ⟨gives_next (by decide), gives_next (by decide), gives_next (by decide), gives_next (by decide)⟩

/-- Outside HALT each kind of event stands first: an edge on a WAKE pin; a sound in SONE and in SLOOP mode ends. -/
theorem witness_EventsOutsideHaltSetNothing :
    nops.halted = false ∧ ({ nops with env := [.idle, fall] } : State).env = .idle :: [fall] ∧
      (∃ t, step { nops with ie := true, env := [fall] } = .next t ∧ (!t.exf && t.pc == 0x101#12) = true) ∧
      (∃ t, step { nops with snd := ⟨true, 5#4, true⟩, env := [.soundEnds] } = .next t ∧ t.snd.on = true) ∧
      (∃ t, step { nops with snd := ⟨true, 5#4, false⟩, env := [.soundEnds] } = .next t ∧ (!t.snd.on) = true) :=
  ⟨rfl, rfl, gives_next (by decide), gives_next (by decide), gives_next (by decide)⟩

/-- Every outcome that `faultOf` distinguishes. -/
theorem witness_EveryInstructionCompletesOrFaultsByName :
    faultOf .nop State.reset = none ∧ faultOf .addAM10 (start 0xAF#8 0#4 false 0#4) = some (.undefinedRam 0xAF#8) ∧
      faultOf .incM32 (start 0xA0#8 0#4 false 0#4) = some (.undefinedRam 0xA0#8) ∧
      faultOf (.call 0#12) { State.reset with subf := true } = some (.nestedCall 0x000#12) ∧
      faultOf .ret State.reset = some (.stackUnwritten 0x000#12) ∧
      faultOf .reti State.reset = some (.stackUnwritten 0x000#12) := by decide

theorem witness_LcdDotsCoverTheDisplayArea :
    lcdAddr 39 7 = lcdAddr 39 4 ∧ (7 : Fin 8).val % 4 ≠ (4 : Fin 8).val % 4 ∧ lcdAddr 0 0 = lcdAddr 0 0 := by decide

end Sys2Proof.Tests
end

section
/-! PROOFS. The immediate loads of the register pairs and of R4 (43_datamove.md R158-R160): one equation per instruction for
the whole next state, and which nibble of XXH is the high one under each IMM8_ORDER. -/

namespace Sys2Proof.Machine

/-- Reads of memory see only the listed cells, the listed ROM bytes and the number of the last reset. -/
theorem sameMemory_of_ram_era_rom {s t : State} (hram : t.ram = s.ram) (hera : t.era = s.era) (hrom : t.rom = s.rom) :
    SameMemory s t :=
  ⟨fun a => by simp only [State.cell, hram, hera], fun p => by simp only [State.romByte, hrom]⟩

@[simp] theorem highNibble_append (h l : Nibble) : highNibble (h ++ l) = h := Laws.high_of_nibbles h l

@[simp] theorem lowNibble_append (h l : Nibble) : lowNibble (h ++ l) = l := Laws.low_of_nibbles h l

@[simp] theorem imm8_firstHigh (e f : Nibble) : imm8 .firstHigh e f = e ++ f := rfl

@[simp] theorem imm8_firstLow (e f : Nibble) : imm8 .firstLow e f = f ++ e := rfl

theorem exec_movR1R0X (e f : Nibble) (s : State) :
    exec (.movR1R0X e f) s = .next { s with
      r.r1 := highNibble (imm8 s.chip.imm8Order e f), r.r0 := lowNibble (imm8 s.chip.imm8Order e f),
      pc := s.pc + 2#12 } := rfl

theorem exec_movR3R2X (e f : Nibble) (s : State) :
    exec (.movR3R2X e f) s = .next { s with
      r.r3 := highNibble (imm8 s.chip.imm8Order e f), r.r2 := lowNibble (imm8 s.chip.imm8Order e f),
      pc := s.pc + 2#12 } := rfl

theorem exec_movR4X (d : Nibble) (s : State) :
    exec (.movR4X d) s = .next { s with r.r4 := d, pc := s.pc + 2#12 } := rfl

/-- R158, for whichever nibbles `h`, `l` the chip takes as the high and the low one. -/
theorem exec_movR1R0X_of_imm8 {s : State} {e f h l : Nibble} (hx : imm8 s.chip.imm8Order e f = h ++ l) :
    let t : State := { s with r.r1 := h, r.r0 := l, pc := s.pc + 2#12 }
    exec (.movR1R0X e f) s = .next t ∧ SameMemory s t :=
  ⟨by simp only [exec_movR1R0X, hx, highNibble_append, lowNibble_append], sameMemory_of_ram_era_rom rfl rfl rfl⟩

/-- R159, likewise. -/
theorem exec_movR3R2X_of_imm8 {s : State} {e f h l : Nibble} (hx : imm8 s.chip.imm8Order e f = h ++ l) :
    let t : State := { s with r.r3 := h, r.r2 := l, pc := s.pc + 2#12 }
    exec (.movR3R2X e f) s = .next t ∧ SameMemory s t :=
  ⟨by simp only [exec_movR3R2X, hx, highNibble_append, lowNibble_append], sameMemory_of_ram_era_rom rfl rfl rfl⟩

/-- Settles O24: IMM8_ORDER decides which nibble of XXH is the high one, and each load writes the nibbles it is given. -/
theorem immediateLoadsOfPointersAndR4 : Obligations.ImmediateLoadsOfPointersAndR4 := by
  intro s e f
  refine ⟨fun horder => ?firstHigh, fun horder => ?firstLow, ?r4⟩
  case firstHigh =>
    have hx : imm8 s.chip.imm8Order e f = e ++ f := by rw [horder, imm8_firstHigh]
    exact ⟨exec_movR1R0X_of_imm8 hx, exec_movR3R2X_of_imm8 hx⟩
  case firstLow =>
    have hx : imm8 s.chip.imm8Order e f = f ++ e := by rw [horder, imm8_firstLow]
    exact ⟨exec_movR1R0X_of_imm8 hx, exec_movR3R2X_of_imm8 hx⟩
  case r4 => exact ⟨exec_movR4X e s, sameMemory_of_ram_era_rom rfl rfl rfl⟩

end Sys2Proof.Machine
end

section
/-! PROOFS. Program memory (20_memory.md R61, R76): what an instruction leaves alone, that nothing in a step writes ROM,
and that a 12-bit address sees another byte only through PA[3]. -/

namespace Sys2Proof.Machine

/-! ## What an instruction leaves alone -/

/-- `DAA` adjusts ACC and C only (R127). -/
theorem decimalAdjust_frame (s : State) :
    decimalAdjust s = { s with acc := (decimalAdjust s).acc, c := (decimalAdjust s).c } := by
  unfold decimalAdjust
  split <;> rfl

/-- If a call answers a next state, SUBF was clear, and the stack register, SUBF and PC are as R190 says. -/
theorem execCall_next {s t : State} {addr : BitVec 12} (h : execCall addr s = .next t) :
    s.subf = false ∧
      t = ((s.setStk { s.stk with pc := s.nxt 2, written := true }).setSubf true).setPc addr := by
  unfold execCall at h
  cases hsub : s.subf with
  | true => simp only [hsub, if_true] at h; cases h
  | false => simp only [hsub, Bool.false_eq_true, if_false] at h; cases h; exact ⟨rfl, rfl⟩

/-- If a table read into R4 answers a next state, the cell could be read, and R4, ACC and PC are as R210 says. -/
theorem tableToR4_next {s t : State} {page : Nibble} (h : tableToR4 s page = .next t) :
    ramExists (dp10 s).toNat = true ∧
      t = ((s.setReg .r4 (highNibble (s.romRead (tableAddr page s.acc (s.cell (dp10 s)))))).setAcc
            (lowNibble (s.romRead (tableAddr page s.acc (s.cell (dp10 s)))))).advance 1 := by
  obtain ⟨ha, hread⟩ := memRead_next h
  exact ⟨ha, by cases hread; rfl⟩

/-- If a table read into a cell answers a next state, the cell could be written, and the cell, ACC and PC are as R210
says. -/
theorem tableToCell_next {s t : State} {page : Nibble} (h : tableToCell s page = .next t) :
    ramExists (dp10 s).toNat = true ∧
      t = ((s.setCell (dp10 s) (highNibble (s.romRead (tableAddr page s.acc s.r.r4)))).setAcc
            (lowNibble (s.romRead (tableAddr page s.acc s.r.r4)))).advance 1 := by
  simp only [tableToCell] at h
  obtain ⟨ha, hwrite⟩ := memWrite_next h
  exact ⟨ha, by cases hwrite; rfl⟩

/-- What an instruction can change: never the divider phase, EXF, ROM, the number of the last reset, the outside world
or the chip's constants. -/
theorem exec_frame {i : Instr} {s t : State} (h : exec i s = .next t) :
    t = { s with acc := t.acc, r := t.r, c := t.c, pc := t.pc, pa := t.pa, stk := t.stk, subf := t.subf, tmr := t.tmr,
                 ton := t.ton, tf := t.tf, ie := t.ie, halted := t.halted, snd := t.snd, ram := t.ram,
                 draws := t.draws } := by
  cases i with
  | addAM10 | adcAM10 | subAM10 | sbcAM10 | movAM10 | movAM32 | andAM10 | orAM10 | xorAM10 =>
    simp only [exec] at h
    obtain ⟨_, hread⟩ := memRead_next h
    cases hread; rfl
  | movM10A | movM32A =>
    simp only [exec] at h
    obtain ⟨_, hwrite⟩ := memWrite_next h
    cases hwrite; rfl
  | incM10 | decM10 | incM32 | decM32 | andM10A | orM10A | xorM10A =>
    simp only [exec] at h
    obtain ⟨_, rfl⟩ := updateCell_next h
    rfl
  | readR4a | readfR4a =>
    obtain ⟨_, rfl⟩ := tableToR4_next h
    rfl
  | readMr0a | readfMr0a =>
    obtain ⟨_, rfl⟩ := tableToCell_next h
    rfl
  | daa => cases h; rw [decimalAdjust_frame]; rfl
  | ret | reti =>
    simp only [exec] at h
    obtain ⟨_, rfl⟩ := returnFrom_next h
    rfl
  | call addr =>
    obtain ⟨_, rfl⟩ := execCall_next h
    rfl
  -- All the others answer a next state whatever the state is, written out by their definitions.
  | _ => cases h; rfl

/-! ## Nothing in a step writes ROM (R76) -/

theorem exec_rom {i : Instr} {s t : State} (h : exec i s = .next t) : t.rom = s.rom := by
  rw [exec_frame h]

@[simp] theorem timerAfter_rom (cyc : Nat) (s : State) : (timerAfter cyc s).rom = s.rom := by
  rw [timerAfter_frame cyc s]

@[simp] theorem interruptEntry_rom (src : IntSource) (s : State) : (interruptEntry src s).rom = s.rom := by
  rw [interruptEntry_eq src s]

@[simp] theorem resetPulse_rom (s : State) : (resetPulse s).rom = s.rom := rfl

/-- Where a reset is due, the event taken is the reset pulse. -/
theorem takeEvent_of_resetDue {s : State} (h : resetDue s = true) :
    ∃ rest, s.env = .resetPulse :: rest ∧ takeEvent s = resetPulse (s.setEnv rest) := by
  rcases takeEvent_cases s with ⟨he, _⟩ | ⟨r, he, _⟩ | reset | ⟨p, r, he, _⟩ | ⟨r, he, _⟩
  case inr.inr.inl => exact reset
  all_goals simp [resetDue, he] at h

@[simp] theorem takeEvent_rom (s : State) : (takeEvent s).rom = s.rom := by
  cases hreset : resetDue s with
  | true =>
    obtain ⟨rest, _, htake⟩ := takeEvent_of_resetDue hreset
    rw [htake, resetPulse_rom, State.setEnv_rom]
  | false => rw [takeEvent_frame hreset]

theorem atBoundary_rom {s t : State} (h : atBoundary s = .next t) : t.rom = s.rom := by
  rcases atBoundary_next h with ⟨_, rfl⟩ | ⟨src, _, _, rfl⟩ | ⟨_, _, i, u, _, hexec, rfl⟩
  · rfl
  · exact interruptEntry_rom src s
  · exact (timerAfter_rom i.cycles u).trans (exec_rom hexec)

theorem step_rom {s t : State} (h : step s = .next t) : t.rom = s.rom := by
  rcases step_next h with ⟨_, rfl⟩ | ⟨_, hboundary⟩
  · exact takeEvent_rom s
  · exact (atBoundary_rom hboundary).trans (takeEvent_rom s)

/-! ## What a 12-bit address sees (R61) -/

theorem State.romByte_of_rom {s t : State} (hrom : t.rom = s.rom) (p : BitVec 13) : t.romByte p = s.romByte p := by
  simp only [State.romByte, hrom]

/-- The bank is bit 3 of PA and nothing else of the state. -/
theorem State.physical_of_bank {s t : State} (hbank : t.pa.getLsbD 3 = s.pa.getLsbD 3) (p : ProgAddr) :
    t.physical p = s.physical p := by
  have hbit : t.pa.extractLsb' 3 1 = s.pa.extractLsb' 3 1 := by
    apply BitVec.eq_of_getLsbD_eq
    intro i hi
    obtain rfl : i = 0 := by omega
    simpa using hbank
  simp only [State.physical, hbit]

/-- Settles O53: a step keeps ROM, and the physical address of a fetch depends on PA only through its bank bit. -/
theorem romNeverChanges : Obligations.RomNeverChanges := by
  intro s t h
  have hbyte : ∀ p, t.romByte p = s.romByte p := State.romByte_of_rom (step_rom h)
  refine ⟨hbyte, fun hbank p => ?_⟩
  calc t.romByte (t.physical p) = s.romByte (t.physical p) := hbyte _
    _ = s.romByte (s.physical p) := by rw [State.physical_of_bank hbank]

end Sys2Proof.Machine
end

section
/-! PROOFS. The length of an instruction (30_encoding.md R90), read off the map of the first byte row by row (R99): the
second byte chooses operands or a refusal, never another length. -/

namespace Sys2Proof.Machine

/-- Whatever instruction the decoder's answer holds is `n` bytes long. -/
def OfLength (n : Nat) (d : Decoded) : Prop := ∀ i, d = .ok i → i.length = n

/-- R90 on the map of R99: the bytes of an instruction whose first byte has high nibble `row` and low nibble `col`. -/
def mapLength (row col : Nat) : Nat :=
  if (row = 3 ∧ col = 7) ∨ (row = 4 ∧ col ≤ 7) ∨ row = 5 ∨ row = 6 ∨ 8 ≤ row then 2 else 1

theorem toNat_eq_nibbles (b : Byte) : b.toNat = 16 * (b.extractLsb' 4 4).toNat + (b.extractLsb' 0 4).toNat := by
  simp only [BitVec.extractLsb'_toNat, Nat.shiftRight_eq_div_pow]
  omega

/-- The rows and columns of `mapLength` are the byte ranges that R90 lists. -/
theorem mapLength_nibbles (b1 : Byte) :
    mapLength (b1.extractLsb' 4 4).toNat (b1.extractLsb' 0 4).toNat =
      if b1.toNat = 0x37 ∨ (0x40 ≤ b1.toNat ∧ b1.toNat ≤ 0x47) ∨ (0x50 ≤ b1.toNat ∧ b1.toNat ≤ 0x6F) ∨
        0x80 ≤ b1.toNat then 2 else 1 := by
  have hcol : (b1.extractLsb' 0 4).toNat < 16 := (b1.extractLsb' 0 4).isLt
  rw [toNat_eq_nibbles b1]
  exact if_congr (by omega) rfl rfl

theorem mapLength_of_ge {row col : Nat} (hrow : 8 ≤ row) : mapLength row col = 2 := by
  simp [mapLength, hrow]

/-! ## The cells of the map -/

theorem ofLength_ok_iff {i : Instr} {n : Nat} : OfLength n (.ok i) ↔ i.length = n :=
  ⟨fun h => h i rfl, fun hi _ hj => by cases hj; exact hi⟩

theorem ofLength_ok {i : Instr} {n : Nat} (hi : i.length = n) : OfLength n (.ok i) := ofLength_ok_iff.mpr hi

theorem ofLength_error (n : Nat) (e : DecodeError) : OfLength n (.error e) := fun _ hj => nomatch hj

/-- A guard on the second byte decides between an instruction and a refusal, so the length is the instruction's. -/
theorem ofLength_ite {n : Nat} {i : Instr} {e : DecodeError} {p : Prop} [Decidable p] (hi : i.length = n) :
    OfLength n (if p then .ok i else .error e) := by
  split
  · exact ofLength_ok hi
  · exact ofLength_error n e

theorem imm4_length {mk : Nibble → Instr} (hmk : ∀ d, (mk d).length = 2) (b1 b2 : Byte) :
    OfLength 2 (imm4 mk b1 b2) :=
  ofLength_ite (hmk _)

theorem nibblePair_length {mk : Nibble → Nibble → Instr} (hmk : ∀ e f, (mk e f).length = 2) (b1 b2 : Byte) :
    OfLength 2 (nibblePair mk b1 b2) :=
  ofLength_ite (hmk _ _)

theorem haltOr_length (b1 b2 : Byte) : OfLength 2 (haltOr b1 b2) := ofLength_ite rfl

theorem condPair_length {low high : BitVec 11 → Instr} (hlow : ∀ a, (low a).length = 2)
    (hhigh : ∀ a, (high a).length = 2) (b1 b2 : Byte) : OfLength 2 (condPair low high b1 b2) := by
  refine ofLength_ok ?_
  split
  · exact hhigh _
  · exact hlow _

/-! ## The rows of the map -/

/-- Every cell of rows 0x, 1x and 2x holds an instruction without a second byte. -/
theorem oneByteRow_length {row : Vector Decoded 16} (hrow : row = mapRow0 ∨ row = mapRow1 ∨ row = mapRow2)
    (col : Nibble) : OfLength 1 (mapCell row col) := by
  have hcells : ∀ d ∈ row, OfLength 1 d := by
    rcases hrow with rfl | rfl | rfl <;>
      simp [mapRow0, mapRow1, mapRow2, ofLength_ok_iff, Instr.length, encode, enc1]
  exact hcells _ (Vector.getElem_mem col.isLt)

/-- Row 3x: HALT in column 7 is the one 2-byte instruction. -/
theorem mapRow3_length (b1 b2 : Byte) : ∀ (k : Nat) (hk : k < 16), OfLength (mapLength 3 k) (mapRow3 b1 b2)[k]
  | 7, _ => haltOr_length b1 b2
  | 2, _ | 5, _ => ofLength_error 1 (.undefinedOpcode b1)
  | 0, _ | 1, _ | 3, _ | 4, _ | 6, _ | 8, _ | 9, _ | 10, _ | 11, _ | 12, _ | 13, _ | 14, _ | 15, _ => ofLength_ok rfl
  | _ + 16, hk => absurd hk (by omega)

/-- Row 4x: a second byte up to column 7, none from column 8. -/
theorem mapRow4_length (b1 b2 : Byte) : ∀ (k : Nat) (hk : k < 16), OfLength (mapLength 4 k) (mapRow4 b1 b2)[k]
  | 0, _ | 1, _ | 2, _ | 3, _ | 4, _ | 5, _ | 6, _ => imm4_length (fun _ => rfl) b1 b2
  | 7, _ => ofLength_ok rfl
  | 8, _ | 9, _ | 10, _ | 11, _ | 12, _ | 13, _ | 14, _ | 15, _ => ofLength_ok rfl
  | _ + 16, hk => absurd hk (by omega)

/-- Row by row (R99), the decoder's answer has the length of the cell that the first byte selects. -/
theorem decode_length (b1 b2 : Byte) :
    OfLength (mapLength (b1.extractLsb' 4 4).toNat (b1.extractLsb' 0 4).toNat) (decode b1 b2) := by
  unfold decode
  generalize b1.extractLsb' 0 4 = col
  match (b1.extractLsb' 4 4).toNat with
  | 0 => exact oneByteRow_length (by simp) col
  | 1 => exact oneByteRow_length (by simp) col
  | 2 => exact oneByteRow_length (by simp) col
  | 3 => exact mapRow3_length b1 b2 col.toNat col.isLt
  | 4 => exact mapRow4_length b1 b2 col.toNat col.isLt
  | 5 | 6 => exact nibblePair_length (fun _ _ => rfl) b1 b2
  | 7 => exact ofLength_ok rfl
  | 8 | 9 | 10 | 11 | 12 | 13 => exact condPair_length (fun _ => rfl) (fun _ => rfl) b1 b2
  | 14 => exact ofLength_ok rfl
  | row + 15 => exact ofLength_ok (mapLength_of_ge (by omega)).symm

/-- Settles O10: the length of the map cell that the first byte selects is R90's, for every second byte. -/
theorem firstByteDecidesTheLength : Obligations.FirstByteDecidesTheLength := by
  intro b1 b2 i h
  rw [← mapLength_nibbles b1]
  exact decode_length b1 b2 i h

end Sys2Proof.Machine
end

section
/-! PROOFS. INC and DEC of ACC and of a working register (42_incdec.md R141, R142, R145, R146): the register forms are one
family indexed by the register, so each rule is proved once for every n. -/

namespace Sys2Proof.Machine

/-- Bytes that the round trip reads back, together with their cycles. -/
theorem encodes_of_roundTrip {i : Instr} {bytes : List Byte} {cycles : Nat} (hread : Laws.RoundTrip.Statement i)
    (hbytes : encode i = bytes) (hcycles : i.cycles = cycles) : Encodes i bytes cycles :=
  ⟨hbytes, hcycles, hbytes ▸ hread⟩

@[simp] theorem sameMemory_setAcc_advance (s : State) (v : Nibble) (len : Nat) :
    SameMemory s ((s.setAcc v).advance len) :=
  sameMemory_of_ram_era_rom rfl rfl rfl

@[simp] theorem sameMemory_setReg_advance (s : State) (n : Reg) (v : Nibble) (len : Nat) :
    SameMemory s ((s.setReg n v).advance len) :=
  sameMemory_of_ram_era_rom rfl rfl rfl

/-! ## The register forms as one family -/

/-- The register number n in bits 3..1 of an opcode of format F1R. -/
def Reg.code : Reg → BitVec 3
  | .r0 => 0#3
  | .r1 => 1#3
  | .r2 => 2#3
  | .r3 => 3#3
  | .r4 => 4#3

/-- `INC Rn`. -/
def incReg : Reg → Instr
  | .r0 => .incR0
  | .r1 => .incR1
  | .r2 => .incR2
  | .r3 => .incR3
  | .r4 => .incR4

/-- `DEC Rn`. -/
def decReg : Reg → Instr
  | .r0 => .decR0
  | .r1 => .decR1
  | .r2 => .decR2
  | .r3 => .decR3
  | .r4 => .decR4

/-- R142, Operation. -/
theorem exec_incReg (n : Reg) (s : State) :
    exec (incReg n) s = .next ((s.setReg n (s.r.get n + 1#4)).advance 1) := by
  cases n <;> rfl

/-- R146, Operation. -/
theorem exec_decReg (n : Reg) (s : State) :
    exec (decReg n) s = .next ((s.setReg n (s.r.get n - 1#4)).advance 1) := by
  cases n <;> rfl

/-- R142, Encoding: `0001 nnn 0`. -/
theorem encodes_incReg (n : Reg) : Encodes (incReg n) [(0b0001#4 ++ n.code ++ 0#1 : Byte)] 1 := by
  cases n with
  | r0 => exact encodes_of_roundTrip Laws.RoundTrip.incR0 rfl rfl
  | r1 => exact encodes_of_roundTrip Laws.RoundTrip.incR1 rfl rfl
  | r2 => exact encodes_of_roundTrip Laws.RoundTrip.incR2 rfl rfl
  | r3 => exact encodes_of_roundTrip Laws.RoundTrip.incR3 rfl rfl
  | r4 => exact encodes_of_roundTrip Laws.RoundTrip.incR4 rfl rfl

/-- R146, Encoding: `0001 nnn 1`. -/
theorem encodes_decReg (n : Reg) : Encodes (decReg n) [(0b0001#4 ++ n.code ++ 1#1 : Byte)] 1 := by
  cases n with
  | r0 => exact encodes_of_roundTrip Laws.RoundTrip.decR0 rfl rfl
  | r1 => exact encodes_of_roundTrip Laws.RoundTrip.decR1 rfl rfl
  | r2 => exact encodes_of_roundTrip Laws.RoundTrip.decR2 rfl rfl
  | r3 => exact encodes_of_roundTrip Laws.RoundTrip.decR3 rfl rfl
  | r4 => exact encodes_of_roundTrip Laws.RoundTrip.decR4 rfl rfl

/-- `INC Rn` completes in every state, and only R[n] and PC change. -/
theorem incReg_next (n : Reg) (s : State) :
    let t := (s.setReg n (s.r.get n + 1#4)).advance 1
    exec (incReg n) s = .next t ∧ SameMemory s t :=
  ⟨exec_incReg n s, sameMemory_setReg_advance s n _ 1⟩

/-- `DEC Rn` completes in every state, and only R[n] and PC change. -/
theorem decReg_next (n : Reg) (s : State) :
    let t := (s.setReg n (s.r.get n - 1#4)).advance 1
    exec (decReg n) s = .next t ∧ SameMemory s t :=
  ⟨exec_decReg n s, sameMemory_setReg_advance s n _ 1⟩

/-! ## The accumulator forms -/

/-- R141, Operation. -/
theorem exec_incA (s : State) : exec .incA s = .next ((s.setAcc (s.acc + 1#4)).advance 1) := rfl

/-- R145, Operation. -/
theorem exec_decA (s : State) : exec .decA s = .next ((s.setAcc (s.acc - 1#4)).advance 1) := rfl

theorem encodes_incA : Encodes .incA [0x31#8] 1 := encodes_of_roundTrip Laws.RoundTrip.incA rfl rfl

theorem encodes_decA : Encodes .decA [0x3F#8] 1 := encodes_of_roundTrip Laws.RoundTrip.decA rfl rfl

/-- `INC A` completes in every state, and only ACC and PC change. -/
theorem incA_next (s : State) :
    let t := (s.setAcc (s.acc + 1#4)).advance 1
    exec .incA s = .next t ∧ SameMemory s t :=
  ⟨exec_incA s, sameMemory_setAcc_advance s _ 1⟩

/-- `DEC A` completes in every state, and only ACC and PC change. -/
theorem decA_next (s : State) :
    let t := (s.setAcc (s.acc - 1#4)).advance 1
    exec .decA s = .next t ∧ SameMemory s t :=
  ⟨exec_decA s, sameMemory_setAcc_advance s _ 1⟩

/-- Settles O20: the two accumulator forms, and the two register families at each of the five registers. -/
theorem incrementAndDecrementRegisters : Obligations.IncrementAndDecrementRegisters := fun s =>
  ⟨encodes_incA, incA_next s,
    encodes_incReg .r0, incReg_next .r0 s,
    encodes_incReg .r1, incReg_next .r1 s,
    encodes_incReg .r2, incReg_next .r2 s,
    encodes_incReg .r3, incReg_next .r3 s,
    encodes_incReg .r4, incReg_next .r4 s,
    encodes_decA, decA_next s,
    encodes_decReg .r0, decReg_next .r0 s,
    encodes_decReg .r1, decReg_next .r1 s,
    encodes_decReg .r2, decReg_next .r2 s,
    encodes_decReg .r3, decReg_next .r3 s,
    encodes_decReg .r4, decReg_next .r4 s⟩

end Sys2Proof.Machine
end

section
/-! PROOFS. The moves between ACC and a working register and the immediate load of ACC (43_datamove.md R151, R152, R157): the
register moves are two families indexed by the register, so each rule is proved once for every n. -/

namespace Sys2Proof.Machine

/-! ## The register moves as two families -/

/-- `MOV A,Rn`. -/
def movAccReg : Reg → Instr
  | .r0 => .movAR0
  | .r1 => .movAR1
  | .r2 => .movAR2
  | .r3 => .movAR3
  | .r4 => .movAR4

/-- `MOV Rn,A`. -/
def movRegAcc : Reg → Instr
  | .r0 => .movR0A
  | .r1 => .movR1A
  | .r2 => .movR2A
  | .r3 => .movR3A
  | .r4 => .movR4A

/-- R151, Operation. -/
theorem exec_movAccReg (n : Reg) (s : State) : exec (movAccReg n) s = .next ((s.setAcc (s.r.get n)).advance 1) := by
  cases n <;> rfl

/-- R152, Operation. -/
theorem exec_movRegAcc (n : Reg) (s : State) : exec (movRegAcc n) s = .next ((s.setReg n s.acc).advance 1) := by
  cases n <;> rfl

/-- R151, Encoding: `0010 nnn 1`. -/
theorem encodes_movAccReg (n : Reg) : Encodes (movAccReg n) [(0b0010#4 ++ n.code ++ 1#1 : Byte)] 1 := by
  cases n with
  | r0 => exact encodes_of_roundTrip Laws.RoundTrip.movAR0 rfl rfl
  | r1 => exact encodes_of_roundTrip Laws.RoundTrip.movAR1 rfl rfl
  | r2 => exact encodes_of_roundTrip Laws.RoundTrip.movAR2 rfl rfl
  | r3 => exact encodes_of_roundTrip Laws.RoundTrip.movAR3 rfl rfl
  | r4 => exact encodes_of_roundTrip Laws.RoundTrip.movAR4 rfl rfl

/-- R152, Encoding: `0010 nnn 0`. -/
theorem encodes_movRegAcc (n : Reg) : Encodes (movRegAcc n) [(0b0010#4 ++ n.code ++ 0#1 : Byte)] 1 := by
  cases n with
  | r0 => exact encodes_of_roundTrip Laws.RoundTrip.movR0A rfl rfl
  | r1 => exact encodes_of_roundTrip Laws.RoundTrip.movR1A rfl rfl
  | r2 => exact encodes_of_roundTrip Laws.RoundTrip.movR2A rfl rfl
  | r3 => exact encodes_of_roundTrip Laws.RoundTrip.movR3A rfl rfl
  | r4 => exact encodes_of_roundTrip Laws.RoundTrip.movR4A rfl rfl

/-- `MOV A,Rn` completes in every state, and only ACC and PC change. -/
theorem movAccReg_next (n : Reg) (s : State) :
    let t := (s.setAcc (s.r.get n)).advance 1
    exec (movAccReg n) s = .next t ∧ SameMemory s t :=
  ⟨exec_movAccReg n s, sameMemory_setAcc_advance s _ 1⟩

/-- `MOV Rn,A` completes in every state, and only R[n] and PC change. -/
theorem movRegAcc_next (n : Reg) (s : State) :
    let t := (s.setReg n s.acc).advance 1
    exec (movRegAcc n) s = .next t ∧ SameMemory s t :=
  ⟨exec_movRegAcc n s, sameMemory_setReg_advance s n _ 1⟩

/-- Settles O22: the two families of moves at each of the five registers. -/
theorem movesBetweenAccAndRegisters : Obligations.MovesBetweenAccAndRegisters := fun s =>
  ⟨encodes_movAccReg .r0, movAccReg_next .r0 s,
    encodes_movRegAcc .r0, movRegAcc_next .r0 s,
    encodes_movAccReg .r1, movAccReg_next .r1 s,
    encodes_movRegAcc .r1, movRegAcc_next .r1 s,
    encodes_movAccReg .r2, movAccReg_next .r2 s,
    encodes_movRegAcc .r2, movRegAcc_next .r2 s,
    encodes_movAccReg .r3, movAccReg_next .r3 s,
    encodes_movRegAcc .r3, movRegAcc_next .r3 s,
    encodes_movAccReg .r4, movAccReg_next .r4 s,
    encodes_movRegAcc .r4, movRegAcc_next .r4 s⟩

/-! ## The immediate load of ACC -/

/-- R157, Operation. -/
theorem exec_movAX (d : Nibble) (s : State) : exec (.movAX d) s = .next ((s.setAcc d).advance 1) := rfl

/-- R157, Encoding: `0111 dddd`. -/
theorem encodes_movAX (d : Nibble) : Encodes (.movAX d) [0x7#4 ++ d] 1 :=
  encodes_of_roundTrip (Laws.RoundTrip.movAX d) rfl rfl

/-- `MOV A,XH` completes in every state, and only ACC and PC change. -/
theorem movAX_next (d : Nibble) (s : State) :
    let t := (s.setAcc d).advance 1
    exec (.movAX d) s = .next t ∧ SameMemory s t :=
  ⟨exec_movAX d s, sameMemory_setAcc_advance s d 1⟩

/-! ## The other immediate instructions, format by format -/

theorem length_of_encImm4 {i : Instr} {op : Byte} {d : Nibble} (h : encode i = encImm4 op d) : i.length = 2 :=
  congrArg List.length h

theorem length_of_encPair {i : Instr} {op e f : Nibble} (h : encode i = encPair op e f) : i.length = 2 :=
  congrArg List.length h

/-- Format F2I (R94): the immediate nibble has a byte of its own. -/
theorem formatF2I_length (e : Nibble) :
    ∀ i ∈ [Instr.addAX e, .subAX e, .andAX e, .orAX e, .xorAX e, .movR4X e, .soundN e], i.length = 2 := by
  simp only [List.forall_mem_cons]
  exact ⟨length_of_encImm4 rfl, length_of_encImm4 rfl, length_of_encImm4 rfl, length_of_encImm4 rfl,
    length_of_encImm4 rfl, length_of_encImm4 rfl, length_of_encImm4 rfl, nofun⟩

/-- Formats F2P (R96) and F2T (R95): eight bits of immediate data, a part of them or all of them in the second byte. -/
theorem formatF2P_F2T_length (e f : Nibble) (b : Byte) :
    ∀ i ∈ [Instr.movR1R0X e f, .movR3R2X e f, .timerX b], i.length = 2 := by
  simp only [List.forall_mem_cons]
  exact ⟨length_of_encPair rfl, length_of_encPair rfl, rfl, nofun⟩

/-- Settles O23: R157 for every nibble, and the lengths of the other immediate instructions format by format. -/
theorem immediateMoveToAcc : Obligations.ImmediateMoveToAcc := fun s d =>
  ⟨encodes_movAX d, movAX_next d s, formatF2I_length, formatF2P_F2T_length⟩

end Sys2Proof.Machine
end

section
/-! PROOFS. The four rotates of ACC (44_rotate_io.md R165-R168): a left rotate moves bits 2..0 one place up and takes one
bit in at the low end, a right rotate moves bits 3..1 one place down and takes one bit in at the high end, so where each bit
goes is said once per direction, for whatever bit comes in. -/

namespace Sys2Proof.Machine

/-! ## Where the bits go -/

theorem getLsbD_shiftUp_succ (x : Nibble) (y : BitVec 1) {n : Nat} (hn : n < 3) :
    (x.extractLsb' 0 3 ++ y).getLsbD (n + 1) = x.getLsbD n := by
  rw [BitVec.getLsbD_append]
  simp [hn]

theorem getLsbD_shiftUp_zero (x : Nibble) (y : BitVec 1) : (x.extractLsb' 0 3 ++ y).getLsbD 0 = y.getLsbD 0 := by
  rw [BitVec.getLsbD_append]
  simp

theorem getLsbD_shiftDown_of_lt (x : Nibble) (y : BitVec 1) {n : Nat} (hn : n < 3) :
    (y ++ x.extractLsb' 1 3).getLsbD n = x.getLsbD (n + 1) := by
  rw [BitVec.getLsbD_append]
  simp [hn, Nat.add_comm]

theorem getLsbD_shiftDown_three (x : Nibble) (y : BitVec 1) : (y ++ x.extractLsb' 1 3).getLsbD 3 = y.getLsbD 0 := by
  rw [BitVec.getLsbD_append]
  simp

/-- A left rotate, whatever bit `b` the low end takes in. -/
theorem shiftUp_bits (x : Nibble) {y : BitVec 1} {b : Bool} (hin : y.getLsbD 0 = b) :
    let v : Nibble := x.extractLsb' 0 3 ++ y
    v.getLsbD 1 = x.getLsbD 0 ∧ v.getLsbD 2 = x.getLsbD 1 ∧ v.getLsbD 3 = x.getLsbD 2 ∧ v.getLsbD 0 = b :=
  ⟨getLsbD_shiftUp_succ x y (by decide), getLsbD_shiftUp_succ x y (by decide), getLsbD_shiftUp_succ x y (by decide),
    (getLsbD_shiftUp_zero x y).trans hin⟩

/-- A right rotate, whatever bit `b` the high end takes in. -/
theorem shiftDown_bits (x : Nibble) {y : BitVec 1} {b : Bool} (hin : y.getLsbD 0 = b) :
    let v : Nibble := y ++ x.extractLsb' 1 3
    v.getLsbD 0 = x.getLsbD 1 ∧ v.getLsbD 1 = x.getLsbD 2 ∧ v.getLsbD 2 = x.getLsbD 3 ∧ v.getLsbD 3 = b :=
  ⟨getLsbD_shiftDown_of_lt x y (by decide), getLsbD_shiftDown_of_lt x y (by decide),
    getLsbD_shiftDown_of_lt x y (by decide), (getLsbD_shiftDown_three x y).trans hin⟩

/-! ## The instructions -/

@[simp] theorem sameMemory_setAcc_setCarry_advance (s : State) (v : Nibble) (b : Bool) (len : Nat) :
    SameMemory s (((s.setAcc v).setCarry b).advance len) :=
  sameMemory_of_ram_era_rom rfl rfl rfl

/-- R165, Operation. -/
theorem exec_rlA (s : State) : exec .rlA s = .next ((rotateLeft s).advance 1) := rfl

/-- R166, Operation. -/
theorem exec_rlcA (s : State) : exec .rlcA s = .next ((rotateLeftCarry s).advance 1) := rfl

/-- R167, Operation. -/
theorem exec_rrA (s : State) : exec .rrA s = .next ((rotateRight s).advance 1) := rfl

/-- R168, Operation. -/
theorem exec_rrcA (s : State) : exec .rrcA s = .next ((rotateRightCarry s).advance 1) := rfl

theorem encodes_rlA : Encodes .rlA [0x01#8] 1 := encodes_of_roundTrip Laws.RoundTrip.rlA rfl rfl

theorem encodes_rlcA : Encodes .rlcA [0x03#8] 1 := encodes_of_roundTrip Laws.RoundTrip.rlcA rfl rfl

theorem encodes_rrA : Encodes .rrA [0x00#8] 1 := encodes_of_roundTrip Laws.RoundTrip.rrA rfl rfl

theorem encodes_rrcA : Encodes .rrcA [0x02#8] 1 := encodes_of_roundTrip Laws.RoundTrip.rrcA rfl rfl

/-- Settles O26: `RL` and `RR` take in the bit that falls out at the other end, `RLC` and `RRC` the old C. -/
theorem rotatesMoveEveryBit : Obligations.RotatesMoveEveryBit := by
  intro s
  refine ⟨⟨encodes_rlA, ?rl⟩, ⟨encodes_rlcA, ?rlc⟩, ⟨encodes_rrA, ?rr⟩, ⟨encodes_rrcA, ?rrc⟩⟩
  case rl =>
    exact ⟨_, exec_rlA s, rfl, sameMemory_setAcc_setCarry_advance s _ _ 1, shiftUp_bits s.acc (by simp)⟩
  case rlc =>
    exact ⟨_, exec_rlcA s, rfl, sameMemory_setAcc_setCarry_advance s _ _ 1, shiftUp_bits s.acc (by simp)⟩
  case rr =>
    exact ⟨_, exec_rrA s, rfl, sameMemory_setAcc_setCarry_advance s _ _ 1, shiftDown_bits s.acc (by simp)⟩
  case rrc =>
    exact ⟨_, exec_rrcA s, rfl, sameMemory_setAcc_setCarry_advance s _ _ 1, shiftDown_bits s.acc (by simp)⟩

end Sys2Proof.Machine
end

section
/-! PROOFS. The direct jump (45_branch.md R176): its own two bytes carry all twelve bits of PC, and PC is all it writes. -/

namespace Sys2Proof.Machine

/-- PC is outside both memories. -/
@[simp] theorem sameMemory_setPc (s : State) (v : ProgAddr) : SameMemory s (s.setPc v) :=
  ⟨State.setPc_cell s v, State.setPc_romByte s v⟩

/-- R176, Operation. -/
theorem exec_jmp (addr : BitVec 12) (s : State) : exec (.jmp addr) s = .next (s.setPc addr) := rfl

/-- R176, Encoding: format F2J with the opcode nibble `1110`. -/
theorem encodes_jmp (addr : BitVec 12) :
    Encodes (.jmp addr) [0xE#4 ++ addr.extractLsb' 8 4, addr.extractLsb' 0 8] 2 :=
  encodes_of_roundTrip (Laws.RoundTrip.jmp addr) rfl rfl

/-- `JMP address` completes in every state, and only PC changes. -/
theorem jmp_next (addr : BitVec 12) (s : State) :
    let t := s.setPc addr
    exec (.jmp addr) s = .next t ∧ SameMemory s t :=
  ⟨exec_jmp addr s, sameMemory_setPc s addr⟩

/-- Settles O30: the encoding of R176 for every address, and its operation in every state. -/
theorem jmpLoadsTheWholeCounter : Obligations.JmpLoadsTheWholeCounter := fun s addr =>
  ⟨encodes_jmp addr, jmp_next addr s⟩

end Sys2Proof.Machine
end

section
/-! PROOFS. The flag instructions CLC, STC and DI, and NOP (46_subroutine_flag.md R193, R194, R196, R197): each writes at most
one flag besides PC, and no flag is in memory. -/

namespace Sys2Proof.Machine

@[simp] theorem sameMemory_setCarry_advance (s : State) (b : Bool) (len : Nat) :
    SameMemory s ((s.setCarry b).advance len) :=
  sameMemory_of_ram_era_rom rfl rfl rfl

@[simp] theorem sameMemory_setIe_advance (s : State) (b : Bool) (len : Nat) :
    SameMemory s ((s.setIe b).advance len) :=
  sameMemory_of_ram_era_rom rfl rfl rfl

@[simp] theorem sameMemory_advance (s : State) (len : Nat) : SameMemory s (s.advance len) :=
  sameMemory_setPc s (s.nxt len)

/-- R193, Operation. -/
theorem exec_clc (s : State) : exec .clc s = .next ((s.setCarry false).advance 1) := rfl

/-- R194, Operation. -/
theorem exec_stc (s : State) : exec .stc s = .next ((s.setCarry true).advance 1) := rfl

/-- R196, Operation. -/
theorem exec_di (s : State) : exec .di s = .next ((s.setIe false).advance 1) := rfl

/-- R197, Operation. -/
theorem exec_nop (s : State) : exec .nop s = .next (s.advance 1) := rfl

theorem encodes_clc : Encodes .clc [0x2A#8] 1 := encodes_of_roundTrip Laws.RoundTrip.clc rfl rfl

theorem encodes_stc : Encodes .stc [0x2B#8] 1 := encodes_of_roundTrip Laws.RoundTrip.stc rfl rfl

theorem encodes_di : Encodes .di [0x2D#8] 1 := encodes_of_roundTrip Laws.RoundTrip.di rfl rfl

theorem encodes_nop : Encodes .nop [0x3E#8] 1 := encodes_of_roundTrip Laws.RoundTrip.nop rfl rfl

/-- `CLC` completes in every state, and only C and PC change. -/
theorem clc_next (s : State) :
    let t := (s.setCarry false).advance 1
    exec .clc s = .next t ∧ SameMemory s t :=
  ⟨exec_clc s, sameMemory_setCarry_advance s false 1⟩

/-- `STC` completes in every state, and only C and PC change. -/
theorem stc_next (s : State) :
    let t := (s.setCarry true).advance 1
    exec .stc s = .next t ∧ SameMemory s t :=
  ⟨exec_stc s, sameMemory_setCarry_advance s true 1⟩

/-- `DI` completes in every state, and only IE and PC change: TF and EXF stay pending. -/
theorem di_next (s : State) :
    let t := (s.setIe false).advance 1
    exec .di s = .next t ∧ SameMemory s t :=
  ⟨exec_di s, sameMemory_setIe_advance s false 1⟩

/-- `NOP` completes in every state, and only PC changes. -/
theorem nop_next (s : State) :
    let t := s.advance 1
    exec .nop s = .next t ∧ SameMemory s t :=
  ⟨exec_nop s, sameMemory_advance s 1⟩

/-- Settles O35: encoding and operation of each of the four instructions. -/
theorem flagInstructionsAndNop : Obligations.FlagInstructionsAndNop := fun s =>
  ⟨encodes_clc, clc_next s,
    encodes_stc, stc_next s,
    encodes_di, di_next s,
    encodes_nop, nop_next s⟩

end Sys2Proof.Machine
end

section
/-! PROOFS. The one-byte sound instructions (49_sound_halt.md R221-R224): each writes the sound state and PC, so one rule for
"write the sound state, then go on" gives the frame of all of them. -/

namespace Sys2Proof.Machine

/-- The sound state is outside both memories (R226). -/
@[simp] theorem sameMemory_setSnd_advance (s : State) (v : Sound) (len : Nat) :
    SameMemory s ((s.setSnd v).advance len) :=
  sameMemory_of_ram_era_rom rfl rfl rfl

/-- An instruction that writes `v` to the sound state and goes on completes with only the sound state and PC changed. -/
theorem soundWrite_next {i : Instr} {s : State} {v : Sound} {len : Nat}
    (hexec : exec i s = .next ((s.setSnd v).advance len)) :
    let t : State := { s with snd := v, pc := s.nxt len }
    exec i s = .next t ∧ SameMemory s t :=
  ⟨hexec, sameMemory_setSnd_advance s v len⟩

/-- R221, Operation: the mode stays. -/
theorem exec_soundA (s : State) :
    exec .soundA s = .next ((s.setSnd { s.snd with on := true, ch := s.acc }).advance 1) := rfl

/-- R222, Operation: whether a sound plays, and which, stays. -/
theorem exec_soundOne (s : State) :
    exec .soundOne s = .next ((s.setSnd { s.snd with loop := false }).advance 1) := rfl

/-- R223, Operation: whether a sound plays, and which, stays. -/
theorem exec_soundLoop (s : State) :
    exec .soundLoop s = .next ((s.setSnd { s.snd with loop := true }).advance 1) := rfl

/-- R224, Operation: SND.ch and SND.loop stay. -/
theorem exec_soundOff (s : State) :
    exec .soundOff s = .next ((s.setSnd { s.snd with on := false }).advance 1) := rfl

theorem encodes_soundA : Encodes .soundA [0x4B#8] 1 := encodes_of_roundTrip Laws.RoundTrip.soundA rfl rfl

theorem encodes_soundOne : Encodes .soundOne [0x48#8] 1 := encodes_of_roundTrip Laws.RoundTrip.soundOne rfl rfl

theorem encodes_soundLoop : Encodes .soundLoop [0x49#8] 1 := encodes_of_roundTrip Laws.RoundTrip.soundLoop rfl rfl

theorem encodes_soundOff : Encodes .soundOff [0x4A#8] 1 := encodes_of_roundTrip Laws.RoundTrip.soundOff rfl rfl

/-- Settles O42: encoding and operation of each of the four instructions. -/
theorem soundControl : Obligations.SoundControl := fun s =>
  ⟨encodes_soundA, soundWrite_next (exec_soundA s),
    encodes_soundOne, soundWrite_next (exec_soundOne s),
    encodes_soundLoop, soundWrite_next (exec_soundLoop s),
    encodes_soundOff, soundWrite_next (exec_soundOff s)⟩

end Sys2Proof.Machine
end

section
/-! PROOFS. Machine cycles (70_reset_and_hazards.md R286): which instructions are the table reads, what each branch of the
cycle count gives, and that the formats of 30_encoding.md make an instruction one or two bytes long. -/

namespace Sys2Proof.Machine

theorem isTableRead_iff {i : Instr} :
    i.isTableRead = true ↔ i = .readR4a ∨ i = .readMr0a ∨ i = .readfR4a ∨ i = .readfMr0a := by
  simp only [Instr.isTableRead, Bool.or_eq_true, beq_iff_eq, or_assoc]
  exact or_congr_right or_left_comm

theorem cycles_of_isTableRead {i : Instr} (h : i.isTableRead = true) : i.cycles = 2 := if_pos h

theorem cycles_of_not_isTableRead {i : Instr} (h : ¬ i.isTableRead = true) : i.cycles = i.length := if_neg h

/-- The table reads carry no address: it is formed from registers. -/
theorem length_of_isTableRead {i : Instr} (h : i.isTableRead = true) : i.length = 1 := by
  obtain rfl | rfl | rfl | rfl := isTableRead_iff.mp h <;> rfl

theorem length_of_encCond {i : Instr} {op : BitVec 5} {a : BitVec 11} (h : encode i = encCond op a) : i.length = 2 :=
  congrArg List.length h

theorem length_of_encJump {i : Instr} {op : Nibble} {a : BitVec 12} (h : encode i = encJump op a) : i.length = 2 :=
  congrArg List.length h

/-- No instruction is longer than two bytes: the 2-byte formats F2I, F2P, F2C, F2J, F2T and F2H, then the 1-byte ones. -/
theorem length_eq_one_or_two (i : Instr) : i.length = 1 ∨ i.length = 2 := by
  cases i with
  | addAX | subAX | andAX | xorAX | orAX | soundN | movR4X => exact .inr (length_of_encImm4 rfl)
  | movR1R0X | movR3R2X => exact .inr (length_of_encPair rfl)
  | ja0 | ja1 | ja2 | ja3 | jnzR0 | jnzR1 | jzA | jnzA | jc | jnc | jtmr | jnzR4 =>
    exact .inr (length_of_encCond rfl)
  | jmp | call => exact .inr (length_of_encJump rfl)
  | timerX | halt => exact .inr rfl
  | _ => exact .inl rfl

/-- Settles O11: the two branches of the cycle count, each with the lengths that occur in it. -/
theorem cyclesOfEveryInstruction : Obligations.CyclesOfEveryInstruction := by
  intro i
  rw [← isTableRead_iff]
  exact ⟨fun hread => ⟨length_of_isTableRead hread, cycles_of_isTableRead hread⟩,
    fun hother => ⟨cycles_of_not_isTableRead hother, length_eq_one_or_two i⟩⟩

end Sys2Proof.Machine
end

section
/-! PROOFS. The decoder against the encoder (30_encoding.md R90, R99-R103). Forwards the round trip of every instruction;
backwards one classification of the decoder's answer, row by row of the map of the first byte: the instruction that begins
with the two bytes, or the one reason why there is none. -/

namespace Sys2Proof.Laws.RoundTrip

/-- The round trip, constructor by constructor. -/
theorem forall_instr : ∀ i : Instr, Statement i
  | .rrA => rrA | .rlA => rlA | .rrcA => rrcA | .rlcA => rlcA | .movAM10 => movAM10 | .movM10A => movM10A
  | .movAM32 => movAM32 | .movM32A => movM32A | .adcAM10 => adcAM10 | .addAM10 => addAM10 | .sbcAM10 => sbcAM10
  | .subAM10 => subAM10 | .incM10 => incM10 | .decM10 => decM10 | .incM32 => incM32 | .decM32 => decM32
  | .incR0 => incR0 | .decR0 => decR0 | .incR1 => incR1 | .decR1 => decR1 | .incR2 => incR2 | .decR2 => decR2
  | .incR3 => incR3 | .decR3 => decR3 | .incR4 => incR4 | .decR4 => decR4 | .andAM10 => andAM10 | .xorAM10 => xorAM10
  | .orAM10 => orAM10 | .andM10A => andM10A | .xorM10A => xorM10A | .orM10A => orM10A | .movR0A => movR0A
  | .movAR0 => movAR0 | .movR1A => movR1A | .movAR1 => movAR1 | .movR2A => movR2A | .movAR2 => movAR2
  | .movR3A => movR3A | .movAR3 => movAR3 | .movR4A => movR4A | .movAR4 => movAR4 | .clc => clc | .stc => stc
  | .ei => ei | .di => di | .ret => ret | .reti => reti | .outPaA => outPaA | .incA => incA | .inAPs => inAPs
  | .inAPp => inAPp | .daa => daa | .halt => halt | .timerOn => timerOn | .timerOff => timerOff
  | .movATmrl => movATmrl | .movATmrh => movATmrh | .movTmrlA => movTmrlA | .movTmrhA => movTmrhA | .nop => nop
  | .decA => decA | .addAX d => addAX d | .subAX d => subAX d | .andAX d => andAX d | .xorAX d => xorAX d
  | .orAX d => orAX d | .soundN d => soundN d | .movR4X d => movR4X d | .timerX d => timerX d | .soundOne => soundOne
  | .soundLoop => soundLoop | .soundOff => soundOff | .soundA => soundA | .readR4a => readR4a | .readfR4a => readfR4a
  | .readMr0a => readMr0a | .readfMr0a => readfMr0a | .movR1R0X e f => movR1R0X e f | .movR3R2X e f => movR3R2X e f
  | .movAX d => movAX d | .ja0 addr => ja0 addr | .ja1 addr => ja1 addr | .ja2 addr => ja2 addr
  | .ja3 addr => ja3 addr | .jnzR0 addr => jnzR0 addr | .jnzR1 addr => jnzR1 addr | .jzA addr => jzA addr
  | .jnzA addr => jnzA addr | .jc addr => jc addr | .jnc addr => jnc addr | .jtmr addr => jtmr addr
  | .jnzR4 addr => jnzR4 addr | .jmp addr => jmp addr | .call addr => call addr

end Sys2Proof.Laws.RoundTrip

namespace Sys2Proof.Machine

/-- Settles O7: the round trip of every constructor. -/
theorem encodeThenDecodeIsTheInstruction : Obligations.EncodeThenDecodeIsTheInstruction := Laws.RoundTrip.forall_instr

/-! ## What the decoder may answer for two bytes -/

/-- The answer `d` is right for the bytes `b1`, `b2`: an instruction they begin with and that R101-R103 let them begin
with, or the refusal those rules name. -/
def Classifies (b1 b2 : Byte) : Decoded → Prop
  | .ok i => bytesWellFormed b1 b2 = true ∧ encode i <+: [b1, b2]
  | .error (.undefinedOpcode b) => b = b1 ∧ firstByteAssigned b1 = false
  | .error (.reservedOperand c1 c2) =>
    c1 = b1 ∧ c2 = b2 ∧ firstByteAssigned b1 = true ∧ secondByteLegal b1 b2 = false

theorem classifies_ok_one {b1 b2 : Byte} {i : Instr} (hwf : bytesWellFormed b1 b2 = true) (henc : encode i = [b1]) :
    Classifies b1 b2 (.ok i) :=
  ⟨hwf, henc ▸ ⟨[b2], rfl⟩⟩

theorem classifies_ok_two {b1 b2 : Byte} {i : Instr} (hwf : bytesWellFormed b1 b2 = true)
    (henc : encode i = [b1, b2]) : Classifies b1 b2 (.ok i) :=
  ⟨hwf, henc ▸ List.prefix_refl _⟩

/-! ## What R101-R103 say of a first byte -/

theorem legality_of_printedZeros {b1 b2 : Byte} (hz : hasPrintedZeros b1 = true) :
    firstByteAssigned b1 = true ∧ secondByteLegal b1 b2 = (b2.extractLsb' 4 4 == 0#4) := by
  have hassigned : hasPrintedZeros b1 = true → firstByteAssigned b1 = true ∧ b1 ≠ 0x37#8 := by
    revert b1; decide
  obtain ⟨h1, h2⟩ := hassigned hz
  exact ⟨h1, by simp [secondByteLegal, h2, hz]⟩

/-- A first byte outside 32H, 35H, 37H and the formats with printed zeros. -/
def freeOfRules (b1 : Byte) : Bool := firstByteAssigned b1 && !hasPrintedZeros b1 && b1 != 0x37#8

theorem bytesWellFormed_of_free {b1 : Byte} (h : freeOfRules b1 = true) (b2 : Byte) : bytesWellFormed b1 b2 = true := by
  simp only [freeOfRules, Bool.and_eq_true, Bool.not_eq_true', bne_iff_ne] at h
  obtain ⟨⟨hassigned, hzeros⟩, hhalt⟩ := h
  simp [bytesWellFormed, secondByteLegal, hassigned, hzeros, hhalt]

/-- From 70H on every first byte is assigned and every second byte legal. -/
theorem free_of_high_row : ∀ row col : Nibble, 7 ≤ row.toNat → freeOfRules (row ++ col) = true := by decide

/-! ## The formats -/

theorem byte_of_zero_high {b : Byte} (h : b.extractLsb' 4 4 = 0#4) : b = 0#4 ++ b.extractLsb' 0 4 := by
  rw [← h]
  revert b; decide

/-- Format F2I (R94, R102). -/
theorem imm4_classifies {mk : Nibble → Instr} {b1 : Byte} (hmk : ∀ d, encode (mk d) = encImm4 b1 d)
    (hz : hasPrintedZeros b1 = true) (b2 : Byte) : Classifies b1 b2 (imm4 mk b1 b2) := by
  obtain ⟨hassigned, hlegal⟩ := legality_of_printedZeros (b2 := b2) hz
  unfold imm4
  split
  · next hhigh =>
    refine classifies_ok_two (by simp [bytesWellFormed, hassigned, hlegal, hhigh]) ?_
    rw [hmk, encImm4, ← byte_of_zero_high hhigh]
  · next hhigh => exact ⟨rfl, rfl, hassigned, by simpa [hlegal] using hhigh⟩

/-- Format F2P (R96, R102). -/
theorem nibblePair_classifies {mk : Nibble → Nibble → Instr} {op : Nibble}
    (hmk : ∀ e f, encode (mk e f) = encPair op e f) (hop : op = 5#4 ∨ op = 6#4) (col : Nibble) (b2 : Byte) :
    Classifies (op ++ col) b2 (nibblePair mk (op ++ col) b2) := by
  have hz : hasPrintedZeros (op ++ col) = true := by
    rcases hop with rfl | rfl <;> revert col <;> decide
  obtain ⟨hassigned, hlegal⟩ := legality_of_printedZeros (b2 := b2) hz
  unfold nibblePair
  split
  · next hhigh =>
    refine classifies_ok_two (by simp [bytesWellFormed, hassigned, hlegal, hhigh]) ?_
    rw [hmk, encPair, ← byte_of_zero_high hhigh, Laws.low_of_nibbles]
  · next hhigh => exact ⟨rfl, rfl, hassigned, by simpa [hlegal] using hhigh⟩

/-- Format F2H (R103). -/
theorem haltOr_classifies (b2 : Byte) : Classifies 0x37#8 b2 (haltOr 0x37#8 b2) := by
  unfold haltOr
  split
  · next h => subst h; exact classifies_ok_two (by decide) rfl
  · next h => exact ⟨rfl, rfl, by decide, by simpa [secondByteLegal] using h⟩

theorem append_bit3_append_low3 (row col : Nibble) :
    (row ++ BitVec.ofBool (col.getLsbD 3) : BitVec 5) ++ col.extractLsb' 0 3 = (row ++ col : Byte) := by
  revert row col; decide

theorem bit3_low3_of_nibbles (row col : Nibble) :
    (row ++ col : Byte).getLsbD 3 = col.getLsbD 3 ∧ (row ++ col : Byte).extractLsb' 0 3 = col.extractLsb' 0 3 := by
  revert row col; decide

/-- Format F2C (R98). -/
theorem condPair_classifies {low high : BitVec 11 → Instr} {row : Nibble} (hrow : 7 ≤ row.toNat)
    (hlow : ∀ a, encode (low a) = encCond (row ++ BitVec.ofBool false) a)
    (hhigh : ∀ a, encode (high a) = encCond (row ++ BitVec.ofBool true) a) (col : Nibble) (b2 : Byte) :
    Classifies (row ++ col) b2 (condPair low high (row ++ col) b2) := by
  obtain ⟨hbit, hlow3⟩ := bit3_low3_of_nibbles row col
  have hbytes : encCond (row ++ BitVec.ofBool (col.getLsbD 3)) (addr11 (row ++ col) b2) = [row ++ col, b2] := by
    rw [encCond, addr11, hlow3, BitVec.extractLsb'_append_eq_left, BitVec.extractLsb'_append_eq_right,
      append_bit3_append_low3]
  refine classifies_ok_two (bytesWellFormed_of_free (free_of_high_row row col hrow) b2) ?_
  rw [hbit]
  cases hb : col.getLsbD 3 <;> rw [hb] at hbytes
  · exact (hlow _).trans hbytes
  · exact (hhigh _).trans hbytes

/-- Format F2J (R97). -/
theorem jump_classifies {mk : BitVec 12 → Instr} {row : Nibble} (hrow : 7 ≤ row.toNat)
    (hmk : ∀ a, encode (mk a) = encJump row a) (col : Nibble) (b2 : Byte) :
    Classifies (row ++ col) b2 (.ok (mk (addr12 (row ++ col) b2))) := by
  refine classifies_ok_two (bytesWellFormed_of_free (free_of_high_row row col hrow) b2) ?_
  rw [hmk, encJump, addr12, Laws.low_of_nibbles, BitVec.extractLsb'_append_eq_left, BitVec.extractLsb'_append_eq_right]

/-! ## The rows of the map -/

/-- A cell without a second byte whose instruction is encoded by the first byte. -/
theorem classifies_oneByte {b1 : Byte} {i : Instr} (hfree : freeOfRules b1 = true) (henc : encode i = [b1]) (b2 : Byte) :
    Classifies b1 b2 (.ok i) :=
  classifies_ok_one (bytesWellFormed_of_free hfree b2) henc

/-- A cell that no instruction uses (R101). -/
theorem unassigned_classifies {b1 : Byte} (h : firstByteAssigned b1 = false) (b2 : Byte) :
    Classifies b1 b2 (unassigned b1) :=
  ⟨rfl, h⟩

/-- The first byte in row `row` and column `k` of the map. -/
def mapByte (row : Nibble) (k : Nat) : Byte := row ++ BitVec.ofNat 4 k

theorem mapByte_toNat (row col : Nibble) : mapByte row col.toNat = row ++ col := by simp [mapByte]

/-- Rows 0x, 1x and 2x hold 1-byte instructions only. -/
theorem oneByteRow_classifies {row : Nibble} {cells : Vector Decoded 16} (b2 : Byte)
    (hrow : row = 0x0#4 ∧ cells = mapRow0 ∨ row = 0x1#4 ∧ cells = mapRow1 ∨ row = 0x2#4 ∧ cells = mapRow2) :
    ∀ (k : Nat) (hk : k < 16), Classifies (mapByte row k) b2 cells[k]
  | 0, _ | 1, _ | 2, _ | 3, _ | 4, _ | 5, _ | 6, _ | 7, _ | 8, _ | 9, _ | 10, _ | 11, _ | 12, _ | 13, _ | 14, _ | 15, _ => by
    rcases hrow with ⟨rfl, rfl⟩ | ⟨rfl, rfl⟩ | ⟨rfl, rfl⟩ <;> exact classifies_oneByte (by decide) rfl b2
  | _ + 16, hk => absurd hk (by omega)

/-- Row 3x: two unassigned cells, HALT, and 1-byte instructions. -/
theorem mapRow3_classifies (b2 : Byte) : ∀ (k : Nat) (hk : k < 16),
    Classifies (mapByte 0x3#4 k) b2 (mapRow3 (mapByte 0x3#4 k) b2)[k]
  | 2, _ | 5, _ => unassigned_classifies (by decide) b2
  | 7, _ => haltOr_classifies b2
  | 0, _ | 1, _ | 3, _ | 4, _ | 6, _ | 8, _ | 9, _ | 10, _ | 11, _ | 12, _ | 13, _ | 14, _ | 15, _ =>
    classifies_oneByte (by decide) rfl b2
  | _ + 16, hk => absurd hk (by omega)

/-- Row 4x: format F2I up to column 6, format F2T in column 7, and 1-byte instructions. -/
theorem mapRow4_classifies (b2 : Byte) : ∀ (k : Nat) (hk : k < 16),
    Classifies (mapByte 0x4#4 k) b2 (mapRow4 (mapByte 0x4#4 k) b2)[k]
  | 0, _ | 1, _ | 2, _ | 3, _ | 4, _ | 5, _ | 6, _ => imm4_classifies (fun _ => rfl) (by decide) b2
  | 7, _ => classifies_ok_two (bytesWellFormed_of_free (by decide) b2) rfl
  | 8, _ | 9, _ | 10, _ | 11, _ | 12, _ | 13, _ | 14, _ | 15, _ => classifies_oneByte (by decide) rfl b2
  | _ + 16, hk => absurd hk (by omega)

/-- Row 7x: `MOV A,XH` carries its immediate in the first byte (R157). -/
theorem mapRow7_classifies (col : Nibble) (b2 : Byte) : Classifies (0x7#4 ++ col) b2 (.ok (.movAX col)) :=
  classifies_oneByte (free_of_high_row 0x7#4 col (by decide)) rfl b2

/-- Row by row (R99), the decoder's answer is right for the bytes. -/
theorem decode_classifies (b1 b2 : Byte) : Classifies b1 b2 (decode b1 b2) := by
  obtain ⟨row, col, rfl⟩ : ∃ row col : Nibble, b1 = row ++ col :=
    ⟨b1.extractLsb' 4 4, b1.extractLsb' 0 4, (BitVec.extractLsb'_append_extractLsb' (w := 4) (len := 4) (x := b1)).symm⟩
  simp only [decode, Laws.high_of_nibbles, Laws.low_of_nibbles]
  obtain ⟨k, hk, rfl⟩ : ∃ k < 16, row = BitVec.ofNat 4 k := ⟨row.toNat, row.isLt, by simp⟩
  match k, hk with
  | 0, _ | 1, _ | 2, _ => exact mapByte_toNat _ col ▸ oneByteRow_classifies b2 (by simp) col.toNat col.isLt
  | 3, _ => exact mapByte_toNat _ col ▸ mapRow3_classifies b2 col.toNat col.isLt
  | 4, _ => exact mapByte_toNat _ col ▸ mapRow4_classifies b2 col.toNat col.isLt
  | 5, _ => exact nibblePair_classifies (fun _ _ => rfl) (.inl rfl) col b2
  | 6, _ => exact nibblePair_classifies (fun _ _ => rfl) (.inr rfl) col b2
  | 7, _ => exact mapRow7_classifies col b2
  | 8, _ | 9, _ | 10, _ | 11, _ | 12, _ | 13, _ => exact condPair_classifies (by decide) (fun _ => rfl) (fun _ => rfl) col b2
  | 14, _ | 15, _ => exact jump_classifies (by decide) (fun _ => rfl) col b2
  | _ + 16, hk => exact absurd hk (by omega)

/-! ## What follows for the bytes of an instruction and for ill-formed bytes -/

theorem length_of_decode {b1 b2 : Byte} {i : Instr} (h : decode b1 b2 = .ok i) :
    i.length = if isTwoByte b1 then 2 else 1 := by
  simpa [isTwoByte] using firstByteDecidesTheLength b1 b2 i h

/-- Settles O8: the two bytes begin with the encoding, of the length that the first byte decides (O10). -/
theorem decodedBytesAreTheEncoding : Obligations.DecodedBytesAreTheEncoding := by
  intro b1 b2 i h
  have hclass : Classifies b1 b2 (.ok i) := h ▸ decode_classifies b1 b2
  rw [List.prefix_iff_eq_take.mp hclass.2, show (encode i).length = _ from length_of_decode h]
  split <;> rfl

/-- Settles O9: each branch of the classification names the rule it comes from, and the branches exclude each other. -/
theorem decoderRefusesExactlyIllFormedBytes : Obligations.DecoderRefusesExactlyIllFormedBytes := by
  intro b1 b2
  have hclass := decode_classifies b1 b2
  match hd : decode b1 b2 with
  | .ok i =>
    obtain ⟨hwf, -⟩ := hd ▸ hclass
    obtain ⟨hassigned, hlegal⟩ := Bool.and_eq_true_iff.mp hwf
    exact ⟨⟨fun _ => ⟨i, rfl⟩, fun _ => hwf⟩, fun h => absurd (hassigned.symm.trans h) (by decide),
      fun _ h => absurd (hlegal.symm.trans h) (by decide)⟩
  | .error (.undefinedOpcode b) =>
    obtain ⟨rfl, hfree⟩ := hd ▸ hclass
    simp [bytesWellFormed, hfree]
  | .error (.reservedOperand c1 c2) =>
    obtain ⟨rfl, rfl, hassigned, hillegal⟩ := hd ▸ hclass
    simp [bytesWellFormed, hassigned, hillegal]

/-- Settles O12: each word is evaluated by the decoder. -/
theorem writtenOutWordsDecode : Obligations.WrittenOutWordsDecode := by
  unfold Obligations.WrittenOutWordsDecode
  decide

end Sys2Proof.Machine
end

section
/-! PROOFS. The control state (10_state.md R24, R28-R37, R45): one equation for what an instruction leaves in each control
field, and the three things a step without a reset can do, said once for the statements on who may change what. -/

namespace Sys2Proof.Machine

/-! ## What an instruction leaves in each control field -/

/-- PA after an instruction (R171). -/
def paAfter (i : Instr) (s : State) : Nibble :=
  match i with
  | .outPaA => s.acc
  | _ => s.pa

/-- The stack register after an instruction (R190). -/
def stkAfter (i : Instr) (s : State) : Stack :=
  match i with
  | .call _ => { s.stk with pc := s.nxt 2, written := true }
  | _ => s.stk

/-- SUBF after an instruction (R190-R192). -/
def subfAfter (i : Instr) (s : State) : Bool :=
  match i with
  | .call _ => true
  | .ret => false
  | .reti => false
  | _ => s.subf

/-- IE after an instruction (R195, R196). -/
def ieAfter (i : Instr) (s : State) : Bool :=
  match i with
  | .ei => true
  | .di => false
  | _ => s.ie

/-- TON after an instruction (R201, R202). -/
def tonAfter (i : Instr) (s : State) : Bool :=
  match i with
  | .timerOn => true
  | .timerOff => false
  | _ => s.ton

/-- TF after an instruction, before its timer clocks (R179). -/
def tfAfter (i : Instr) (s : State) : Bool :=
  match i with
  | .jtmr _ => false
  | _ => s.tf

/-- The instructions that load TMR or a nibble of it (R200, R205, R206). -/
def loadsTmr : Instr → Bool
  | .timerX _ => true
  | .movTmrlA => true
  | .movTmrhA => true
  | _ => false

/-- HALTED after an instruction (R225). -/
def haltedAfter (i : Instr) (s : State) : Bool :=
  match i with
  | .halt => true
  | _ => s.halted

/-- The sound state after an instruction (R220-R224). -/
def sndAfter (i : Instr) (s : State) : Sound :=
  match i with
  | .soundN n => { s.snd with on := true, ch := n }
  | .soundA => { s.snd with on := true, ch := s.acc }
  | .soundOne => { s.snd with loop := false }
  | .soundLoop => { s.snd with loop := true }
  | .soundOff => { s.snd with on := false }
  | _ => s.snd

/-- Everything an instruction can change, the control fields with their new values (R24, R45). -/
theorem exec_control {i : Instr} {s t : State} (h : exec i s = .next t) :
    t = { s with acc := t.acc, r := t.r, pc := t.pc, draws := t.draws,
                 c := if writesCarry i then t.c else s.c, pa := paAfter i s, stk := stkAfter i s, subf := subfAfter i s,
                 ie := ieAfter i s, ton := tonAfter i s, tf := tfAfter i s,
                 tmr := if loadsTmr i then t.tmr else s.tmr, halted := haltedAfter i s, snd := sndAfter i s,
                 ram := if storesAt10 i || storesAt32 i then t.ram else s.ram } := by
  cases i with
  | addAM10 | adcAM10 | subAM10 | sbcAM10 | movAM10 | movAM32 | andAM10 | orAM10 | xorAM10 =>
    simp only [exec] at h
    obtain ⟨_, hread⟩ := memRead_next h
    cases hread; rfl
  | movM10A | movM32A =>
    simp only [exec] at h
    obtain ⟨_, hwrite⟩ := memWrite_next h
    cases hwrite; rfl
  | incM10 | decM10 | incM32 | decM32 | andM10A | orM10A | xorM10A =>
    simp only [exec] at h
    obtain ⟨_, rfl⟩ := updateCell_next h
    rfl
  | readR4a | readfR4a =>
    obtain ⟨_, rfl⟩ := tableToR4_next h
    rfl
  | readMr0a | readfMr0a =>
    obtain ⟨_, rfl⟩ := tableToCell_next h
    rfl
  | daa => cases h; rw [decimalAdjust_frame]; rfl
  | ret | reti =>
    simp only [exec] at h
    obtain ⟨_, rfl⟩ := returnFrom_next h
    rfl
  | call addr =>
    obtain ⟨_, rfl⟩ := execCall_next h
    rfl
  -- All the others answer a next state whatever the state is, written out by their definitions.
  | _ => cases h; rfl

section
variable {i : Instr} {s t : State}

theorem exec_pa (h : exec i s = .next t) : t.pa = paAfter i s := congrArg State.pa (exec_control h)
theorem exec_stk (h : exec i s = .next t) : t.stk = stkAfter i s := congrArg State.stk (exec_control h)
theorem exec_subf (h : exec i s = .next t) : t.subf = subfAfter i s := congrArg State.subf (exec_control h)
theorem exec_ie (h : exec i s = .next t) : t.ie = ieAfter i s := congrArg State.ie (exec_control h)
theorem exec_ton (h : exec i s = .next t) : t.ton = tonAfter i s := congrArg State.ton (exec_control h)
theorem exec_tf (h : exec i s = .next t) : t.tf = tfAfter i s := congrArg State.tf (exec_control h)
theorem exec_halted (h : exec i s = .next t) : t.halted = haltedAfter i s := congrArg State.halted (exec_control h)
theorem exec_snd (h : exec i s = .next t) : t.snd = sndAfter i s := congrArg State.snd (exec_control h)
theorem exec_exf (h : exec i s = .next t) : t.exf = s.exf := by rw [exec_control h]
theorem exec_phase (h : exec i s = .next t) : t.phase = s.phase := by rw [exec_control h]
theorem exec_era (h : exec i s = .next t) : t.era = s.era := by rw [exec_control h]
theorem exec_chip (h : exec i s = .next t) : t.chip = s.chip := by rw [exec_control h]

theorem exec_c_of_not_writesCarry (h : exec i s = .next t) (hi : writesCarry i = false) : t.c = s.c := by
  simpa [hi] using congrArg State.c (exec_control h)

theorem exec_tmr_of_not_loadsTmr (h : exec i s = .next t) (hi : loadsTmr i = false) : t.tmr = s.tmr := by
  simpa [hi] using congrArg State.tmr (exec_control h)

theorem exec_ram_of_no_store (h : exec i s = .next t) (h10 : storesAt10 i = false) (h32 : storesAt32 i = false) :
    t.ram = s.ram := by
  simpa [h10, h32] using congrArg State.ram (exec_control h)

/-- What a store through R1,R0 does to RAM. -/
theorem exec_storesAt10 (h : exec i s = .next t) (hi : storesAt10 i = true) :
    ramExists (dp10 s).toNat = true ∧ ∃ v, t.ram = Memory.put s.ram (dp10 s).toNat v := by
  cases i with
  | movM10A =>
    simp only [exec] at h
    obtain ⟨ha, hwrite⟩ := memWrite_next h
    cases hwrite; exact ⟨ha, _, rfl⟩
  | incM10 | decM10 | andM10A | orM10A | xorM10A =>
    simp only [exec] at h
    obtain ⟨ha, rfl⟩ := updateCell_next h
    exact ⟨ha, _, rfl⟩
  | readMr0a | readfMr0a =>
    obtain ⟨ha, rfl⟩ := tableToCell_next h
    exact ⟨ha, _, rfl⟩
  | _ => cases hi

/-- What a store through R3,R2 does to RAM. -/
theorem exec_storesAt32 (h : exec i s = .next t) (hi : storesAt32 i = true) :
    ramExists (dp32 s).toNat = true ∧ ∃ v, t.ram = Memory.put s.ram (dp32 s).toNat v := by
  cases i with
  | movM32A =>
    simp only [exec] at h
    obtain ⟨ha, hwrite⟩ := memWrite_next h
    cases hwrite; exact ⟨ha, _, rfl⟩
  | incM32 | decM32 =>
    simp only [exec] at h
    obtain ⟨ha, rfl⟩ := updateCell_next h
    exact ⟨ha, _, rfl⟩
  | _ => cases hi

/-- Everything an instruction can do to RAM: nothing, or one write at a pointer, where the cell exists. -/
theorem exec_ram_cases (h : exec i s = .next t) :
    t.ram = s.ram ∨
    (storesAt10 i = true ∧ ramExists (dp10 s).toNat = true ∧ ∃ v, t.ram = Memory.put s.ram (dp10 s).toNat v) ∨
    (storesAt32 i = true ∧ ramExists (dp32 s).toNat = true ∧ ∃ v, t.ram = Memory.put s.ram (dp32 s).toNat v) := by
  cases h10 : storesAt10 i with
  | true => exact .inr (.inl ⟨rfl, exec_storesAt10 h h10⟩)
  | false =>
    cases h32 : storesAt32 i with
    | true => exact .inr (.inr ⟨rfl, exec_storesAt32 h h32⟩)
    | false => exact .inl (exec_ram_of_no_store h h10 h32)

end

/-- A cell beside the one address that RAM was written at reads as before. -/
theorem State.cell_of_ram_put {s t : State} {a b : DataAddr} {v : Nibble} (hram : t.ram = Memory.put s.ram a.toNat v)
    (hera : t.era = s.era) (hb : b ≠ a) : t.cell b = s.cell b := by
  have hn : b.toNat ≠ a.toNat := fun e => hb (BitVec.eq_of_toNat_eq e)
  simp only [State.cell, hram, hera, Memory.find_put_other _ _ _ _ hn]

/-- Settles O51: the equation for C and for PA. -/
theorem onlyListedInstructionsWriteCarry : Obligations.OnlyListedInstructionsWriteCarry := by
  intro i s t h
  refine ⟨exec_c_of_not_writesCarry h, fun hi => (exec_pa h).trans ?_⟩
  unfold paAfter
  split
  · exact absurd rfl hi
  · rfl

/-- Settles O52: RAM is as before or written at the pointer of the store form. -/
theorem storesGoOnlyThroughThePointers : Obligations.StoresGoOnlyThroughThePointers := by
  intro i s t h b hnot10 hnot32
  rcases exec_ram_cases h with hram | ⟨h10, _, v, hram⟩ | ⟨h32, _, v, hram⟩
  · simp only [State.cell, hram, exec_era h]
  · exact State.cell_of_ram_put hram (exec_era h) fun hb => hnot10 ⟨h10, hb⟩
  · exact State.cell_of_ram_put hram (exec_era h) fun hb => hnot32 ⟨h32, hb⟩

end Sys2Proof.Machine
end

section
/-! PROOFS. The invariant of the machine (20_memory.md R61, R66; 60_exceptions.md R251; 10_state.md R29, R30): each part of
a step keeps it, so every step does. -/

namespace Sys2Proof.Machine

theorem resetPulse_inv {s : State} (hrom : Memory.wf romExists s.rom = true) : (resetPulse s).Inv :=
  ⟨⟨Memory.wf_nil _, hrom⟩, Nat.mod_lt _ (Nat.two_pow_pos _), nofun, nofun⟩

/-- An event of the outside keeps the invariant: a reset pulse establishes it, any other event leaves what it speaks of. -/
theorem takeEvent_inv {s : State} (h : s.Inv) : (takeEvent s).Inv := by
  cases hreset : resetDue s with
  | true =>
    obtain ⟨⟨_, hrom⟩, _⟩ := h
    obtain ⟨rest, _, htake⟩ := takeEvent_of_resetDue hreset
    rw [htake]
    exact resetPulse_inv hrom
  | false =>
    rw [takeEvent_frame hreset]
    exact h

theorem interruptEntry_inv {s : State} (src : IntSource) (h : s.Inv) : (interruptEntry src s).Inv := by
  obtain ⟨hmem, hphase, _⟩ := h
  rw [interruptEntry_eq]
  exact ⟨hmem, hphase, fun _ => rfl, fun _ => rfl⟩

theorem exec_memoriesWf {i : Instr} {s t : State} (h : exec i s = .next t) (hs : s.MemoriesWf) : t.MemoriesWf := by
  obtain ⟨hram, hrom⟩ := hs
  refine ⟨?_, (exec_rom h).symm ▸ hrom⟩
  rcases exec_ram_cases h with e | ⟨_, ha, v, e⟩ | ⟨_, ha, v, e⟩ <;> rw [e]
  · exact hram
  · exact Memory.wf_put _ _ _ _ hram ha
  · exact Memory.wf_put _ _ _ _ hram ha

theorem exec_phaseBound {i : Instr} {s t : State} (h : exec i s = .next t) (hs : s.PhaseBound) : t.PhaseBound := by
  unfold State.PhaseBound
  rw [exec_phase h, exec_chip h]
  exact hs

/-- A CALL writes STK.pc and sets SUBF; a return clears SUBF; nothing else writes either. -/
theorem exec_stackOk {i : Instr} {s t : State} (h : exec i s = .next t) (hs : s.StackOk) : t.StackOk := by
  unfold State.StackOk
  rw [exec_stk h, exec_subf h]
  cases i with
  | call addr => exact ⟨fun _ => rfl, fun _ => rfl⟩
  | ret | reti => exact ⟨nofun, hs.2⟩
  | _ => exact hs

theorem exec_inv {i : Instr} {s t : State} (h : exec i s = .next t) (hs : s.Inv) : t.Inv := by
  obtain ⟨hmem, hphase, hstack⟩ := hs
  exact ⟨exec_memoriesWf h hmem, exec_phaseBound h hphase, exec_stackOk h hstack⟩

/-- R252 reduces the phase modulo 2^n. -/
theorem timerAfter_phaseBound {s : State} (cyc : Nat) (h : s.PhaseBound) : (timerAfter cyc s).PhaseBound := by
  unfold timerAfter
  split
  · rw [timerClocks_frame]
    exact Nat.mod_lt _ (Nat.two_pow_pos _)
  · exact h

theorem timerAfter_inv {s : State} (cyc : Nat) (h : s.Inv) : (timerAfter cyc s).Inv := by
  obtain ⟨hmem, hphase, hstack⟩ := h
  have hbound := timerAfter_phaseBound cyc hphase
  rw [timerAfter_frame] at hbound ⊢
  exact ⟨hmem, hbound, hstack⟩

theorem atBoundary_inv {s t : State} (h : atBoundary s = .next t) (hs : s.Inv) : t.Inv := by
  rcases atBoundary_next h with ⟨_, rfl⟩ | ⟨src, _, _, rfl⟩ | ⟨_, _, i, u, _, hexec, rfl⟩
  · exact hs
  · exact interruptEntry_inv src hs
  · exact timerAfter_inv i.cycles (exec_inv hexec hs)

/-- Settles O4: the event keeps the invariant, and so does whatever the boundary does after it. -/
theorem everyStepKeepsTheInvariant : Obligations.EveryStepKeepsTheInvariant := by
  intro s t hs h
  rcases step_next h with ⟨_, rfl⟩ | ⟨_, hboundary⟩
  · exact takeEvent_inv hs
  · exact atBoundary_inv hboundary (takeEvent_inv hs)

/-- Settles O3: State.reset lists no cell, stands at phase 0 and is in no subroutine. -/
theorem resetSatisfiesTheInvariant : Obligations.ResetSatisfiesTheInvariant :=
  ⟨⟨Memory.wf_nil _, Memory.wf_nil _⟩, Nat.two_pow_pos _, nofun, nofun⟩

/-- Settles O1: the reset list (R44) read off State.reset. -/
theorem resetGivesTheListedValues : Obligations.ResetGivesTheListedValues :=
  ⟨rfl, rfl, rfl, rfl, rfl, rfl, rfl, rfl, rfl, rfl, rfl⟩

/-- Settles O2: where the pulse stands first, the step is the pulse. -/
theorem resetPulseGivesTheListedValues : Obligations.ResetPulseGivesTheListedValues := by
  intro s rest henv
  have hstep : step s = .next (resetPulse (s.setEnv rest)) := by
    simp [step, stepOnce, resetDue, takeEvent, henv]
  exact ⟨_, hstep, rfl, rfl, rfl, rfl, rfl, rfl, rfl, rfl, rfl, rfl, rfl, rfl, rfl,
    Nat.mod_lt _ (Nat.two_pow_pos _), fun _ => rfl, rfl, rfl, rfl⟩

end Sys2Proof.Machine
end

section
/-! PROOFS. The timer (60_exceptions.md R250-R253): k clocks add k to TMR, and an instruction brings the clocks that its
oscillator periods complete. -/

namespace Sys2Proof.Machine

/-! ## Timer clocks -/

theorem timerClock_tmr (s : State) : (timerClock s).tmr.toNat = (s.tmr.toNat + 1) % 256 := BitVec.toNat_add _ _

/-- TMR stands at FFH exactly where one more clock reaches 256. -/
theorem timerClock_tf (s : State) : (timerClock s).tf = (s.tf || decide (256 ≤ s.tmr.toNat + 1)) := by
  have hff : (s.tmr == 0xFF#8) = decide (256 ≤ s.tmr.toNat + 1) := by
    rw [Bool.eq_iff_iff, beq_iff_eq, decide_eq_true_iff, ← BitVec.toNat_inj, show (0xFF#8).toNat = 255 from rfl]
    have hlt := s.tmr.isLt
    omega
  exact congrArg (s.tf || ·) hff

theorem timerClocks_tmr (k : Nat) (s : State) : (timerClocks k s).tmr.toNat = (s.tmr.toNat + k) % 256 := by
  induction k generalizing s with
  | zero => exact (Nat.mod_eq_of_lt s.tmr.isLt).symm
  | succ k ih =>
    rw [timerClocks, ih, timerClock_tmr]
    omega

theorem timerClocks_tf (k : Nat) (s : State) :
    (timerClocks k s).tf = (s.tf || decide (256 ≤ s.tmr.toNat + k)) := by
  induction k generalizing s with
  | zero =>
    have hlt := s.tmr.isLt
    simp [timerClocks, show ¬ 256 ≤ s.tmr.toNat from by omega]
  | succ k ih =>
    have hlt := s.tmr.isLt
    rw [timerClocks, ih, timerClock_tf, timerClock_tmr, Bool.or_assoc, ← Bool.decide_or]
    congr 2
    apply propext
    omega

/-- Settles O38: TMR and TF by induction on the number of clocks, and the frame. -/
theorem timerClocksCountAndOverflow : Obligations.TimerClocksCountAndOverflow := fun k s =>
  ⟨timerClocks_tmr k s, timerClocks_tf k s, timerClocks_frame k s⟩

/-! ## The clocks of one instruction -/

/-- The timer clocks that fall due in `cyc` machine cycles (R252). -/
def clocksDue (cyc : Nat) (s : State) : Nat := (s.phase + 4 * cyc) / 2 ^ s.chip.timerDiv.exponent

theorem timerAfter_stopped {s : State} (cyc : Nat) (h : ¬(s.ton = true ∧ s.halted = false)) : timerAfter cyc s = s :=
  if_neg (by simpa using h)

theorem timerAfter_running {s : State} (cyc : Nat) (hton : s.ton = true) (hhalted : s.halted = false) :
    timerAfter cyc s =
      timerClocks (clocksDue cyc s) (s.setPhase ((s.phase + 4 * cyc) % 2 ^ s.chip.timerDiv.exponent)) := by
  simp [timerAfter, clocksDue, hton, hhalted]

/-- Settles O39: the clocks due and the new phase are quotient and remainder of the periods by 2^n. -/
theorem timerRunsByOscillatorPeriods : Obligations.TimerRunsByOscillatorPeriods := by
  intro cyc s
  refine ⟨fun hton hhalted => ?_, timerAfter_stopped cyc⟩
  have hrun := timerAfter_running cyc hton hhalted
  have hphase : (timerAfter cyc s).phase = (s.phase + 4 * cyc) % 2 ^ s.chip.timerDiv.exponent := by
    rw [hrun, timerClocks_frame]
    rfl
  refine ⟨clocksDue cyc s, ?_, ?_, ?_, ?_, timerAfter_frame cyc s⟩
  · rw [hphase, clocksDue]
    exact Nat.mod_add_div' _ _
  · rw [hphase]
    exact Nat.mod_lt _ (Nat.two_pow_pos _)
  · rw [hrun, timerClocks_tmr]
    rfl
  · rw [hrun, timerClocks_tf]
    rfl

/-! ## The timer instructions (47_timer.md R200-R207) -/

@[simp] theorem sameMemory_setTmr_advance (s : State) (v : Byte) (len : Nat) :
    SameMemory s ((s.setTmr v).advance len) :=
  sameMemory_of_ram_era_rom rfl rfl rfl

@[simp] theorem sameMemory_setTon_advance (s : State) (b : Bool) (len : Nat) :
    SameMemory s ((s.setTon b).advance len) :=
  sameMemory_of_ram_era_rom rfl rfl rfl

/-- R200: loading `d` leaves 256 - d clocks to the overflow. -/
theorem timerX_clocks (d : Byte) (s : State) (k : Nat) :
    (timerClocks k ((s.setTmr d).advance 2)).tf = (s.tf || decide (256 ≤ d.toNat + k)) :=
  timerClocks_tf k _

/-- Settles O37: encoding and operation of each of the seven instructions, and the clocks left after a load. -/
theorem timerInstructions : Obligations.TimerInstructions := fun s =>
  ⟨fun d => ⟨encodes_of_roundTrip (Laws.RoundTrip.timerX d) rfl rfl,
      ⟨rfl, sameMemory_setTmr_advance s d 2⟩, timerX_clocks d s⟩,
    encodes_of_roundTrip Laws.RoundTrip.timerOn rfl rfl, ⟨rfl, sameMemory_setTon_advance s true 1⟩,
    encodes_of_roundTrip Laws.RoundTrip.timerOff rfl rfl, ⟨rfl, sameMemory_setTon_advance s false 1⟩,
    encodes_of_roundTrip Laws.RoundTrip.movATmrl rfl rfl, ⟨rfl, sameMemory_setAcc_advance s _ 1⟩,
    encodes_of_roundTrip Laws.RoundTrip.movATmrh rfl rfl, ⟨rfl, sameMemory_setAcc_advance s _ 1⟩,
    encodes_of_roundTrip Laws.RoundTrip.movTmrlA rfl rfl, ⟨rfl, sameMemory_setTmr_advance s _ 1⟩,
    encodes_of_roundTrip Laws.RoundTrip.movTmrhA rfl rfl, ⟨rfl, sameMemory_setTmr_advance s _ 1⟩⟩

end Sys2Proof.Machine
end

section
/-! PROOFS. Who may change what in a step without a reset (10_state.md sections 3, 4 and 6): the event of the outside, then
nothing in HALT mode, an interrupt entry, or one instruction and its timer clocks. -/

namespace Sys2Proof.Machine

section
variable {s t : State}

/-- What a step without a reset does after its event, with the cause named. -/
theorem step_cases (hreset : resetDue s = false) (h : step s = .next t) :
    ((takeEvent s).halted = true ∧ t = takeEvent s) ∨
    (∃ src, Takes s src ∧ t = interruptEntry src (takeEvent s)) ∨
    ∃ i u, Runs s i ∧ exec i (takeEvent s) = .next u ∧ t = timerAfter i.cycles u := by
  rcases step_next h with ⟨htrue, _⟩ | ⟨_, hboundary⟩
  · exact absurd (htrue.symm.trans hreset) (by decide)
  · rcases atBoundary_next hboundary with hhalt | ⟨src, hh, hdue, ht⟩ | ⟨hh, hdue, i, u, hdecode, hexec, ht⟩
    · exact .inl hhalt
    · exact .inr (.inl ⟨src, ⟨hreset, hh, hdue⟩, ht⟩)
    · exact .inr (.inr ⟨i, u, ⟨hreset, hh, hdue, hdecode⟩, hexec, ht⟩)

/-- The same for one field `f` that neither an event nor a timer clock touches. -/
theorem step_field_cases {α : Type} (f : State → α) (hevent : f (takeEvent s) = f s)
    (htimer : ∀ cyc u, f (timerAfter cyc u) = f u) (hreset : resetDue s = false) (h : step s = .next t) :
    f t = f s ∨ (∃ src, Takes s src ∧ f t = f (interruptEntry src (takeEvent s))) ∨
    ∃ i u, Runs s i ∧ exec i (takeEvent s) = .next u ∧ f t = f u := by
  rcases step_cases hreset h with ⟨_, rfl⟩ | ⟨src, htakes, rfl⟩ | ⟨i, u, hruns, hexec, rfl⟩
  · exact .inl hevent
  · exact .inr (.inl ⟨src, htakes, rfl⟩)
  · exact .inr (.inr ⟨i, u, hruns, hexec, htimer i.cycles u⟩)

/-! ## Fields that an event other than reset leaves alone -/

theorem takeEvent_acc (h : resetDue s = false) : (takeEvent s).acc = s.acc := by rw [takeEvent_frame h]
theorem takeEvent_c (h : resetDue s = false) : (takeEvent s).c = s.c := by rw [takeEvent_frame h]
theorem takeEvent_pc (h : resetDue s = false) : (takeEvent s).pc = s.pc := by rw [takeEvent_frame h]
theorem takeEvent_pa (h : resetDue s = false) : (takeEvent s).pa = s.pa := by rw [takeEvent_frame h]
theorem takeEvent_stk (h : resetDue s = false) : (takeEvent s).stk = s.stk := by rw [takeEvent_frame h]
theorem takeEvent_subf (h : resetDue s = false) : (takeEvent s).subf = s.subf := by rw [takeEvent_frame h]
theorem takeEvent_ie (h : resetDue s = false) : (takeEvent s).ie = s.ie := by rw [takeEvent_frame h]
theorem takeEvent_ton (h : resetDue s = false) : (takeEvent s).ton = s.ton := by rw [takeEvent_frame h]
theorem takeEvent_tf (h : resetDue s = false) : (takeEvent s).tf = s.tf := by rw [takeEvent_frame h]
theorem takeEvent_tmr (h : resetDue s = false) : (takeEvent s).tmr = s.tmr := by rw [takeEvent_frame h]
theorem takeEvent_snd_ch (h : resetDue s = false) : (takeEvent s).snd.ch = s.snd.ch := by rw [takeEvent_frame h]
theorem takeEvent_snd_loop (h : resetDue s = false) : (takeEvent s).snd.loop = s.snd.loop := by
  rw [takeEvent_frame h]

theorem takeEvent_chip (s : State) : (takeEvent s).chip = s.chip := by
  cases hreset : resetDue s with
  | true =>
    obtain ⟨rest, _, htake⟩ := takeEvent_of_resetDue hreset
    rw [htake]
    rfl
  | false => rw [takeEvent_frame hreset]

end

/-! ## Fields that the timer clocks leave alone -/

theorem timerAfter_pa (cyc : Nat) (s : State) : (timerAfter cyc s).pa = s.pa := by rw [timerAfter_frame]
theorem timerAfter_stk (cyc : Nat) (s : State) : (timerAfter cyc s).stk = s.stk := by rw [timerAfter_frame]
theorem timerAfter_subf (cyc : Nat) (s : State) : (timerAfter cyc s).subf = s.subf := by rw [timerAfter_frame]
theorem timerAfter_ie (cyc : Nat) (s : State) : (timerAfter cyc s).ie = s.ie := by rw [timerAfter_frame]
theorem timerAfter_ton (cyc : Nat) (s : State) : (timerAfter cyc s).ton = s.ton := by rw [timerAfter_frame]
theorem timerAfter_exf (cyc : Nat) (s : State) : (timerAfter cyc s).exf = s.exf := by rw [timerAfter_frame]
theorem timerAfter_halted (cyc : Nat) (s : State) : (timerAfter cyc s).halted = s.halted := by rw [timerAfter_frame]
theorem timerAfter_snd (cyc : Nat) (s : State) : (timerAfter cyc s).snd = s.snd := by rw [timerAfter_frame]
theorem timerAfter_chip (cyc : Nat) (s : State) : (timerAfter cyc s).chip = s.chip := by rw [timerAfter_frame]

/-! ## PA, IE, the stack register and SUBF (R28-R30, R34) -/

section
variable {s t : State}

theorem step_pa (hreset : resetDue s = false) (h : step s = .next t) (hne : t.pa ≠ s.pa) :
    Runs s .outPaA ∧ t.pa = s.acc := by
  rcases step_field_cases State.pa (takeEvent_pa hreset) timerAfter_pa hreset h with
    e | ⟨src, _, e⟩ | ⟨i, u, hruns, hexec, e⟩
  · exact absurd e hne
  · rw [interruptEntry_eq] at e
    exact absurd (e.trans (takeEvent_pa hreset)) hne
  · rw [exec_pa hexec] at e
    cases i with
    | outPaA => exact ⟨hruns, e.trans (takeEvent_acc hreset)⟩
    | _ => exact absurd (e.trans (takeEvent_pa hreset)) hne

theorem step_ie (hreset : resetDue s = false) (h : step s = .next t) (hne : t.ie ≠ s.ie) :
    (Runs s .ei ∧ t.ie = true) ∨ (Runs s .di ∧ t.ie = false) := by
  rcases step_field_cases State.ie (takeEvent_ie hreset) timerAfter_ie hreset h with
    e | ⟨src, _, e⟩ | ⟨i, u, hruns, hexec, e⟩
  · exact absurd e hne
  · rw [interruptEntry_eq] at e
    exact absurd (e.trans (takeEvent_ie hreset)) hne
  · rw [exec_ie hexec] at e
    cases i with
    | ei => exact .inl ⟨hruns, e⟩
    | di => exact .inr ⟨hruns, e⟩
    | _ => exact absurd (e.trans (takeEvent_ie hreset)) hne

theorem step_stk (hreset : resetDue s = false) (h : step s = .next t) (hne : t.stk ≠ s.stk) :
    (∃ src, Takes s src) ∨ ∃ addr, Runs s (.call addr) := by
  rcases step_field_cases State.stk (takeEvent_stk hreset) timerAfter_stk hreset h with
    e | ⟨src, htakes, _⟩ | ⟨i, u, hruns, hexec, e⟩
  · exact absurd e hne
  · exact .inl ⟨src, htakes⟩
  · rw [exec_stk hexec] at e
    cases i with
    | call addr => exact .inr ⟨addr, hruns⟩
    | _ => exact absurd (e.trans (takeEvent_stk hreset)) hne

theorem step_subf (hreset : resetDue s = false) (h : step s = .next t) (hne : t.subf ≠ s.subf) :
    (t.subf = true ∧ ((∃ src, Takes s src) ∨ ∃ addr, Runs s (.call addr))) ∨
    (t.subf = false ∧ (Runs s .ret ∨ Runs s .reti)) := by
  rcases step_field_cases State.subf (takeEvent_subf hreset) timerAfter_subf hreset h with
    e | ⟨src, htakes, e⟩ | ⟨i, u, hruns, hexec, e⟩
  · exact absurd e hne
  · rw [interruptEntry_eq] at e
    exact .inl ⟨e, .inl ⟨src, htakes⟩⟩
  · rw [exec_subf hexec] at e
    cases i with
    | call addr => exact .inl ⟨e, .inr ⟨addr, hruns⟩⟩
    | ret => exact .inr ⟨e, .inl hruns⟩
    | reti => exact .inr ⟨e, .inr hruns⟩
    | _ => exact absurd (e.trans (takeEvent_subf hreset)) hne

theorem atBoundary_chip (h : atBoundary s = .next t) : t.chip = s.chip := by
  rcases atBoundary_next h with ⟨_, rfl⟩ | ⟨src, _, _, rfl⟩ | ⟨_, _, i, u, _, hexec, rfl⟩
  · rfl
  · rw [interruptEntry_eq]
  · exact (timerAfter_chip i.cycles u).trans (exec_chip hexec)

theorem step_chip (h : step s = .next t) : t.chip = s.chip := by
  rcases step_next h with ⟨_, rfl⟩ | ⟨_, hboundary⟩
  · exact takeEvent_chip s
  · exact (atBoundary_chip hboundary).trans (takeEvent_chip s)

end

/-- Settles O54: the chip's constants, then each of the four fields. -/
theorem controlStateChangesOnlyWhereTheSpecSays : Obligations.ControlStateChangesOnlyWhereTheSpecSays :=
  fun _ _ h => ⟨step_chip h, fun hreset => ⟨step_pa hreset h, step_ie hreset h, step_stk hreset h, step_subf hreset h⟩⟩

/-! ## TON, TF and TMR (R31-R33) -/

section
variable {s t : State}

theorem step_ton (hreset : resetDue s = false) (h : step s = .next t) (hne : t.ton ≠ s.ton) :
    (Runs s .timerOn ∧ t.ton = true) ∨ (Runs s .timerOff ∧ t.ton = false) := by
  rcases step_field_cases State.ton (takeEvent_ton hreset) timerAfter_ton hreset h with
    e | ⟨src, _, e⟩ | ⟨i, u, hruns, hexec, e⟩
  · exact absurd e hne
  · rw [interruptEntry_eq] at e
    exact absurd (e.trans (takeEvent_ton hreset)) hne
  · rw [exec_ton hexec] at e
    cases i with
    | timerOn => exact .inl ⟨hruns, e⟩
    | timerOff => exact .inr ⟨hruns, e⟩
    | _ => exact absurd (e.trans (takeEvent_ton hreset)) hne

/-- Where the end of an instruction sets TF, the timer runs and its clocks carry TMR past FFH. -/
theorem timerAfter_sets_tf {cyc : Nat} (hbefore : s.tf = false) (hafter : (timerAfter cyc s).tf = true) :
    s.ton = true ∧ s.halted = false ∧ 256 ≤ s.tmr.toNat + clocksDue cyc s := by
  by_cases hrun : s.ton = true ∧ s.halted = false
  · rw [timerAfter_running cyc hrun.1 hrun.2, timerClocks_tf, State.setPhase_tf, hbefore, Bool.false_or] at hafter
    exact ⟨hrun.1, hrun.2, of_decide_eq_true hafter⟩
  · rw [timerAfter_stopped cyc hrun, hbefore] at hafter
    cases hafter

/-- Where the end of an instruction changes TMR, the timer runs and a clock falls due. -/
theorem timerAfter_changes_tmr {cyc : Nat} (hne : (timerAfter cyc s).tmr ≠ s.tmr) :
    s.ton = true ∧ s.halted = false ∧ 2 ^ s.chip.timerDiv.exponent ≤ s.phase + 4 * cyc := by
  by_cases hrun : s.ton = true ∧ s.halted = false
  · refine ⟨hrun.1, hrun.2, Nat.le_of_not_lt fun hlt => hne ?_⟩
    rw [timerAfter_running cyc hrun.1 hrun.2, clocksDue, Nat.div_eq_of_lt hlt]
    rfl
  · exact absurd (congrArg State.tmr (timerAfter_stopped cyc hrun)) hne

theorem tfAfter_eq_false {i : Instr} (h : s.tf = false) : tfAfter i s = false := by
  unfold tfAfter
  split
  · rfl
  · exact h

theorem step_sets_tf (hreset : resetDue s = false) (h : step s = .next t) (hbefore : s.tf = false)
    (hafter : t.tf = true) :
    ∃ i v, Runs s i ∧ exec i (takeEvent s) = .next v ∧ v.ton = true ∧ v.halted = false ∧
      256 ≤ v.tmr.toNat + (v.phase + 4 * i.cycles) / 2 ^ s.chip.timerDiv.exponent := by
  have hevent : (takeEvent s).tf = false := (takeEvent_tf hreset).trans hbefore
  rcases step_cases hreset h with ⟨_, rfl⟩ | ⟨src, _, rfl⟩ | ⟨i, v, hruns, hexec, rfl⟩
  · exact absurd (hevent.symm.trans hafter) (by decide)
  · simp [interruptEntry_eq, hevent] at hafter
  · have hv : v.tf = false := (exec_tf hexec).trans (tfAfter_eq_false hevent)
    obtain ⟨hton, hhalted, hclocks⟩ := timerAfter_sets_tf hv hafter
    rw [clocksDue, exec_chip hexec, takeEvent_chip] at hclocks
    exact ⟨i, v, hruns, hexec, hton, hhalted, hclocks⟩

theorem loadsTmr_iff {i : Instr} : loadsTmr i = true ↔ (∃ d, i = .timerX d) ∨ i = .movTmrlA ∨ i = .movTmrhA := by
  cases i <;> simp [loadsTmr]

theorem step_changes_tmr (hreset : resetDue s = false) (h : step s = .next t) (hne : t.tmr ≠ s.tmr) :
    ∃ i v, Runs s i ∧ exec i (takeEvent s) = .next v ∧
      ((∃ d, i = .timerX d) ∨ i = .movTmrlA ∨ i = .movTmrhA ∨
        (v.ton = true ∧ v.halted = false ∧ 2 ^ s.chip.timerDiv.exponent ≤ v.phase + 4 * i.cycles)) := by
  rcases step_cases hreset h with ⟨_, rfl⟩ | ⟨src, _, rfl⟩ | ⟨i, v, hruns, hexec, rfl⟩
  · exact absurd (takeEvent_tmr hreset) hne
  · rw [interruptEntry_eq] at hne
    exact absurd (takeEvent_tmr hreset) hne
  · refine ⟨i, v, hruns, hexec, ?_⟩
    cases hload : loadsTmr i with
    | true => simpa only [or_assoc] using Or.inl (loadsTmr_iff.mp hload)
    | false =>
      have hv : v.tmr = s.tmr := (exec_tmr_of_not_loadsTmr hexec hload).trans (takeEvent_tmr hreset)
      obtain ⟨hton, hhalted, hclocks⟩ := timerAfter_changes_tmr (hv ▸ hne)
      rw [exec_chip hexec, takeEvent_chip] at hclocks
      exact .inr (.inr (.inr ⟨hton, hhalted, hclocks⟩))

end

/-- Settles O57: each of the three timer fields. -/
theorem timerStateChangesOnlyWhereTheSpecSays : Obligations.TimerStateChangesOnlyWhereTheSpecSays :=
  fun _ _ hreset h => ⟨step_ton hreset h, step_sets_tf hreset h, step_changes_tmr hreset h⟩

end Sys2Proof.Machine
end

section
/-! PROOFS. HALTED, EXF, TF and the sound state over one step (10_state.md R33-R37; 60_exceptions.md R233-R241): what the
event of the outside can do to them, and then what the boundary can. -/

namespace Sys2Proof.Machine

/-- A conjunction is its first part, or differs from it by being cleared by the second. -/
theorem and_eq_left_or : ∀ a b : Bool, (a && b) = a ∨ (a = true ∧ (a && b) = false ∧ b = false) := by decide

section
variable {s t : State}

/-- Only a wake-up changes HALTED or EXF before the boundary. -/
theorem takeEvent_halted_exf (hreset : resetDue s = false) :
    ((takeEvent s).halted = s.halted ∧ (takeEvent s).exf = s.exf) ∨
    (Wakes s ∧ (takeEvent s).halted = false ∧ (takeEvent s).exf = true) := by
  rcases takeEvent_wake hreset with hsame | ⟨hhalted, p, rest, henv, hedge, htake⟩
  · exact .inl hsame
  · exact .inr ⟨⟨hhalted, p, rest, henv, hedge⟩, by rw [htake]; rfl, by rw [htake]; rfl⟩

/-- No event takes EXF away. -/
theorem takeEvent_exf_of_exf (hreset : resetDue s = false) (h : s.exf = true) : (takeEvent s).exf = true := by
  rcases takeEvent_halted_exf hreset with ⟨_, hexf⟩ | ⟨_, _, hexf⟩
  · exact hexf.trans h
  · exact hexf

/-- Before the boundary SND.on only clears: the sound ends in SONE mode outside HALT, or the chip wakes. -/
theorem takeEvent_snd_on (hreset : resetDue s = false) :
    (takeEvent s).snd.on = s.snd.on ∨
    (s.snd.on = true ∧ (takeEvent s).snd.on = false ∧
      ((s.env.head? = some .soundEnds ∧ s.snd.loop = false ∧ s.halted = false) ∨ Wakes s)) := by
  rcases takeEvent_cases s with ⟨_, e⟩ | ⟨r, _, e⟩ | ⟨r, he, e⟩ | ⟨p, r, he, e⟩ | ⟨r, he, e⟩ <;> rw [e]
  · exact .inl rfl
  · exact .inl rfl
  · simp [resetDue, he] at hreset
  · rcases pinsChanged_cases p (s.setEnv r) with ⟨_, e⟩ | ⟨hh, hw, e⟩ <;> rw [e]
    · exact .inl rfl
    · rcases and_eq_left_or s.snd.on (Config.soundAfterWake (s.draws + 1)) with hsame | ⟨hon, hoff, _⟩
      · exact .inl hsame
      · exact .inr ⟨hon, hoff, .inr ⟨hh, p, r, he, hw⟩⟩
  · rw [soundEnded_eq]
    rcases and_eq_left_or s.snd.on (s.snd.loop || s.halted) with hsame | ⟨hon, hoff, hmode⟩
    · exact .inl hsame
    · obtain ⟨hloop, hhalted⟩ := Bool.or_eq_false_iff.mp hmode
      exact .inr ⟨hon, hoff, .inl ⟨by rw [he]; rfl, hloop, hhalted⟩⟩

/-! ## HALTED and EXF (R35, R36) -/

theorem step_sets_halted (hreset : resetDue s = false) (h : step s = .next t) (hbefore : s.halted = false)
    (hafter : t.halted = true) : Runs s .halt := by
  have hevent : (takeEvent s).halted = false := by
    rcases takeEvent_halted_exf hreset with ⟨hhalted, _⟩ | ⟨_, hhalted, _⟩
    · exact hhalted.trans hbefore
    · exact hhalted
  have hne : t.halted ≠ (takeEvent s).halted := by simp [hafter, hevent]
  rcases step_cases hreset h with ⟨_, rfl⟩ | ⟨src, _, rfl⟩ | ⟨i, u, hruns, hexec, rfl⟩
  · exact absurd rfl hne
  · rw [interruptEntry_eq] at hne
    exact absurd rfl hne
  · rw [timerAfter_halted, exec_halted hexec] at hne
    cases i with
    | halt => exact hruns
    | _ => exact absurd rfl hne

theorem step_clears_halted (hreset : resetDue s = false) (h : step s = .next t) (hbefore : s.halted = true)
    (hafter : t.halted = false) : Wakes s := by
  rcases takeEvent_halted_exf hreset with ⟨hhalted, _⟩ | ⟨hwakes, _⟩
  · have hevent : (takeEvent s).halted = true := hhalted.trans hbefore
    rcases step_cases hreset h with ⟨_, rfl⟩ | ⟨src, ⟨_, hrun, _⟩, _⟩ | ⟨i, u, ⟨_, hrun, _⟩, _⟩
    · exact absurd (hevent.symm.trans hafter) (by decide)
    · exact absurd (hevent.symm.trans hrun) (by decide)
    · exact absurd (hevent.symm.trans hrun) (by decide)
  · exact hwakes

/-- After the event EXF changes only by being taken. -/
theorem step_exf (hreset : resetDue s = false) (h : step s = .next t) :
    t.exf = (takeEvent s).exf ∨ (Takes s .external ∧ t.exf = false) := by
  rcases step_cases hreset h with ⟨_, rfl⟩ | ⟨src, htakes, rfl⟩ | ⟨i, u, _, hexec, rfl⟩
  · exact .inl rfl
  · cases src with
    | timer => exact .inl rfl
    | external => exact .inr ⟨htakes, rfl⟩
  · exact .inl ((timerAfter_exf i.cycles u).trans (exec_exf hexec))

theorem step_sets_exf (hreset : resetDue s = false) (h : step s = .next t) (hbefore : s.exf = false)
    (hafter : t.exf = true) : Wakes s := by
  rcases step_exf hreset h with e | ⟨_, e⟩
  · rcases takeEvent_halted_exf hreset with ⟨_, hexf⟩ | ⟨hwakes, _⟩
    · exact absurd (hafter.symm.trans (e.trans (hexf.trans hbefore))) (by decide)
    · exact hwakes
  · exact absurd (hafter.symm.trans e) (by decide)

theorem step_keeps_exf (hreset : resetDue s = false) (h : step s = .next t) (hbefore : s.exf = true) :
    t.exf = true ∨ Takes s .external := by
  rcases step_exf hreset h with e | ⟨htakes, _⟩
  · exact .inl (e.trans (takeEvent_exf_of_exf hreset hbefore))
  · exact .inr htakes

end

/-- Settles O58: each direction of HALTED and of EXF. -/
theorem haltAndLatchChangeOnlyWhereTheSpecSays : Obligations.HaltAndLatchChangeOnlyWhereTheSpecSays :=
  fun _ _ hreset h => ⟨step_sets_halted hreset h, step_clears_halted hreset h, step_sets_exf hreset h,
    fun hbefore hafter => (step_keeps_exf hreset h hbefore).resolve_left (by simp [hafter])⟩

/-! ## Pending interrupts (R233-R235) -/

section
variable {s t : State}

theorem not_takes_of_subf (hsubf : s.subf = true) (src : IntSource) : ¬Takes s src := by
  rintro ⟨hreset, _, hdue⟩
  obtain ⟨_, hheld, _⟩ := interruptDue_some hdue
  exact absurd ((takeEvent_subf hreset).symm.trans hheld) (by simp [hsubf])

/-- The clocks of an instruction never clear TF. -/
theorem timerAfter_keeps_tf {cyc : Nat} (h : s.tf = true) : (timerAfter cyc s).tf = true := by
  by_cases hrun : s.ton = true ∧ s.halted = false
  · rw [timerAfter_running cyc hrun.1 hrun.2, timerClocks_tf, State.setPhase_tf, h, Bool.true_or]
  · rw [timerAfter_stopped cyc hrun, h]

theorem step_keeps_tf (hreset : resetDue s = false) (h : step s = .next t) (hbefore : s.tf = true) :
    t.tf = true ∨ Takes s .timer ∨ ∃ addr, Runs s (.jtmr addr) := by
  have hevent : (takeEvent s).tf = true := (takeEvent_tf hreset).trans hbefore
  rcases step_cases hreset h with ⟨_, rfl⟩ | ⟨src, htakes, rfl⟩ | ⟨i, u, hruns, hexec, rfl⟩
  · exact .inl hevent
  · cases src with
    | timer => exact .inr (.inl htakes)
    | external => exact .inl hevent
  · have hu := exec_tf hexec
    cases i with
    | jtmr addr => exact .inr (.inr ⟨addr, hruns⟩)
    | _ => exact .inl (timerAfter_keeps_tf (hu.trans hevent))

end

/-- Settles O50: SUBF holds both sources, and each pending bit has only the listed ends. -/
theorem heldInterruptsAreNotLost : Obligations.HeldInterruptsAreNotLost :=
  fun _ _ hreset h => ⟨not_takes_of_subf, step_keeps_exf hreset h, step_keeps_tf hreset h⟩

/-! ## The sound state (R37) -/

section
variable {s t : State}

/-- After the event the sound state changes only by an instruction that the step runs. -/
theorem step_snd (hreset : resetDue s = false) (h : step s = .next t) :
    t.snd = (takeEvent s).snd ∨ ∃ i, Runs s i ∧ t.snd = sndAfter i (takeEvent s) := by
  rcases step_cases hreset h with ⟨_, rfl⟩ | ⟨src, _, rfl⟩ | ⟨i, u, hruns, hexec, rfl⟩
  · exact .inl rfl
  · rw [interruptEntry_eq]
    exact .inl rfl
  · exact .inr ⟨i, hruns, (timerAfter_snd i.cycles u).trans (exec_snd hexec)⟩

theorem step_snd_ch (hreset : resetDue s = false) (h : step s = .next t) (hne : t.snd.ch ≠ s.snd.ch) :
    (∃ n, Runs s (.soundN n) ∧ t.snd.ch = n) ∨ (Runs s .soundA ∧ t.snd.ch = s.acc) := by
  rw [← takeEvent_snd_ch hreset] at hne
  rcases step_snd hreset h with e | ⟨i, hruns, e⟩ <;> rw [e] at hne ⊢
  · exact absurd rfl hne
  · cases i with
    | soundN n => exact .inl ⟨n, hruns, rfl⟩
    | soundA => exact .inr ⟨hruns, takeEvent_acc hreset⟩
    | _ => exact absurd rfl hne

theorem step_snd_loop (hreset : resetDue s = false) (h : step s = .next t) (hne : t.snd.loop ≠ s.snd.loop) :
    (Runs s .soundLoop ∧ t.snd.loop = true) ∨ (Runs s .soundOne ∧ t.snd.loop = false) := by
  rw [← takeEvent_snd_loop hreset] at hne
  rcases step_snd hreset h with e | ⟨i, hruns, e⟩ <;> rw [e] at hne ⊢
  · exact absurd rfl hne
  · cases i with
    | soundLoop => exact .inl ⟨hruns, rfl⟩
    | soundOne => exact .inr ⟨hruns, rfl⟩
    | _ => exact absurd rfl hne

/-- After the event SND.on changes only by the three instructions that start or stop a sound. -/
theorem step_snd_on (hreset : resetDue s = false) (h : step s = .next t) :
    t.snd.on = (takeEvent s).snd.on ∨ (t.snd.on = true ∧ ((∃ n, Runs s (.soundN n)) ∨ Runs s .soundA)) ∨
    (t.snd.on = false ∧ Runs s .soundOff) := by
  rcases step_snd hreset h with e | ⟨i, hruns, e⟩ <;> rw [e]
  · exact .inl rfl
  · cases i with
    | soundN n => exact .inr (.inl ⟨rfl, .inl ⟨n, hruns⟩⟩)
    | soundA => exact .inr (.inl ⟨rfl, .inr hruns⟩)
    | soundOff => exact .inr (.inr ⟨rfl, hruns⟩)
    | _ => exact .inl rfl

theorem step_sets_snd_on (hreset : resetDue s = false) (h : step s = .next t) (hbefore : s.snd.on = false)
    (hafter : t.snd.on = true) : (∃ n, Runs s (.soundN n)) ∨ Runs s .soundA := by
  rcases step_snd_on hreset h with e | ⟨_, hstarts⟩ | ⟨e, _⟩
  · rcases takeEvent_snd_on hreset with e' | ⟨hon, _⟩
    · exact absurd (hafter.symm.trans (e.trans (e'.trans hbefore))) (by decide)
    · exact absurd (hon.symm.trans hbefore) (by decide)
  · exact hstarts
  · exact absurd (hafter.symm.trans e) (by decide)

theorem step_clears_snd_on (hreset : resetDue s = false) (h : step s = .next t) (hbefore : s.snd.on = true)
    (hafter : t.snd.on = false) :
    Runs s .soundOff ∨ (s.env.head? = some .soundEnds ∧ s.snd.loop = false ∧ s.halted = false) ∨ Wakes s := by
  rcases step_snd_on hreset h with e | ⟨e, _⟩ | ⟨_, hoff⟩
  · rcases takeEvent_snd_on hreset with e' | ⟨_, _, hcause⟩
    · exact absurd (hafter.symm.trans (e.trans (e'.trans hbefore))) (by decide)
    · exact .inr hcause
  · exact absurd (hafter.symm.trans e) (by decide)
  · exact .inl hoff

end

/-- Settles O59: each field of the sound state. -/
theorem soundStateChangesOnlyWhereTheSpecSays : Obligations.SoundStateChangesOnlyWhereTheSpecSays :=
  fun _ _ hreset h => ⟨step_snd_ch hreset h, step_snd_loop hreset h, step_sets_snd_on hreset h,
    step_clears_snd_on hreset h⟩

end Sys2Proof.Machine
end

section
/-! PROOFS. The parts of a step as equations (60_exceptions.md R260): what each event makes of the state, what the boundary
does with the state it finds, and which interrupt is due. -/

namespace Sys2Proof.Machine

section
variable {s : State}

/-! ## The boundary and the instruction -/

theorem step_of_no_reset (h : resetDue s = false) : step s = atBoundary (takeEvent s) := by
  simp [step, stepOnce, h]

theorem atBoundary_of_halted (h : s.halted = true) : atBoundary s = .next s := by simp [atBoundary, h]

theorem atBoundary_of_due {src : IntSource} (hrun : s.halted = false) (hdue : interruptDue s = some src) :
    atBoundary s = .next (interruptEntry src s) := by
  simp [atBoundary, hrun, hdue]

theorem atBoundary_of_none_due (hrun : s.halted = false) (hdue : interruptDue s = none) :
    atBoundary s = runInstruction s := by
  simp [atBoundary, hrun, hdue]

theorem runInstruction_of_ok {i : Instr} (h : decode (fetch s).1 (fetch s).2 = .ok i) :
    runInstruction s = finish i (exec i s) := by
  simp [runInstruction, h]

theorem runInstruction_of_error {e : DecodeError} (h : decode (fetch s).1 (fetch s).2 = .error e) :
    runInstruction s = .fault (decodeFault s.pc e) := by
  simp [runInstruction, h]

/-! ## The interrupt that is due (R233, R237) -/

theorem interruptDue_timer (hie : s.ie = true) (hsubf : s.subf = false) (htf : s.tf = true)
    (hfirst : s.exf = false ∨ s.chip.intPriority = .timerFirst) : interruptDue s = some .timer := by
  cases hexf : s.exf with
  | false => simp [interruptDue, hie, hsubf, htf, hexf]
  | true =>
    have hpriority := hfirst.resolve_left (by simp [hexf])
    simp [interruptDue, hie, hsubf, htf, hexf, hpriority]

theorem interruptDue_external (hie : s.ie = true) (hsubf : s.subf = false) (hexf : s.exf = true)
    (hfirst : s.tf = false ∨ s.chip.intPriority = .externalFirst) : interruptDue s = some .external := by
  cases htf : s.tf with
  | false => simp [interruptDue, hie, hsubf, htf, hexf]
  | true =>
    have hpriority := hfirst.resolve_left (by simp [htf])
    simp [interruptDue, hie, hsubf, htf, hexf, hpriority]

theorem interruptDue_none (h : s.ie = false ∨ s.subf = true ∨ (s.tf = false ∧ s.exf = false)) :
    interruptDue s = none := by
  rcases h with hie | hsubf | ⟨htf, hexf⟩
  · simp [interruptDue, hie]
  · simp [interruptDue, hsubf]
  · simp [interruptDue, htf, hexf]

/-! ## The event of the outside (R230, R241) -/

theorem takeEvent_nil (h : s.env = []) : takeEvent s = s := by simp [takeEvent, h]

theorem takeEvent_idle {rest : List Event} (h : s.env = .idle :: rest) : takeEvent s = s.setEnv rest := by
  simp [takeEvent, h]

theorem takeEvent_pinsChange {p : Pins} {rest : List Event} (h : s.env = .pinsChange p :: rest) :
    takeEvent s = pinsChanged p (s.setEnv rest) := by
  simp [takeEvent, h]

theorem takeEvent_soundEnds {rest : List Event} (h : s.env = .soundEnds :: rest) :
    takeEvent s = soundEnded (s.setEnv rest) := by
  simp [takeEvent, h]

/-- Outside HALT the end of a sound clears SND.on in SONE mode (R37). -/
theorem soundEnded_running (h : s.halted = false) : soundEnded s = s.setSnd { s.snd with on := s.snd.on && s.snd.loop } := by
  rw [soundEnded_eq, h, Bool.or_false]

theorem resetDue_nil (h : s.env = []) : resetDue s = false := by simp [resetDue, h]

theorem resetDue_cons {e : Event} {rest : List Event} (h : s.env = e :: rest) (he : e ≠ .resetPulse) :
    resetDue s = false := by
  simpa [resetDue, h] using he

theorem takeEvent_env (hreset : resetDue s = false) : (takeEvent s).env = s.env.tail := by
  rcases takeEvent_cases s with ⟨he, e⟩ | ⟨r, he, e⟩ | ⟨r, he, e⟩ | ⟨p, r, he, e⟩ | ⟨r, he, e⟩ <;> rw [e, he]
  · rfl
  · rfl
  · simp [resetDue, he] at hreset
  · rcases pinsChanged_cases p (s.setEnv r) with ⟨_, e⟩ | ⟨_, _, e⟩ <;> rw [e] <;> rfl
  · rw [soundEnded_eq]; rfl

/-- An event that neither resets nor wakes changes the record of the outside and SND.on only. -/
theorem takeEvent_frame_of_not_wakes (hreset : resetDue s = false) (hsleeps : ¬Wakes s) :
    takeEvent s =
      { s with env := s.env.tail, pins := (takeEvent s).pins, draws := (takeEvent s).draws,
               snd.on := (takeEvent s).snd.on } := by
  have hframe := takeEvent_frame hreset
  obtain ⟨hhalted, hexf⟩ := (takeEvent_halted_exf hreset).resolve_right fun h => hsleeps h.1
  rw [takeEvent_env hreset, hhalted, hexf] at hframe
  exact hframe

/-- Outside HALT nothing wakes the chip (R235). -/
theorem not_wakes_of_running (h : s.halted = false) : ¬Wakes s := fun hwakes =>
  absurd (hwakes.1.symm.trans h) (by decide)

/-- An edge in HALT mode wakes the chip (R241). -/
theorem takeEvent_of_wake {p : Pins} {rest : List Event} (hhalted : s.halted = true)
    (henv : s.env = .pinsChange p :: rest)
    (hedge : wakeEdge s.chip.wake (pinLevels s) (pinLevels (withPins p s)) = true) :
    takeEvent s = wakeUp (withPins p (s.setEnv rest)) := by
  rw [takeEvent_pinsChange henv]
  rcases pinsChanged_cases p (s.setEnv rest) with ⟨hnot, _⟩ | ⟨_, _, hwake⟩
  · exact absurd ⟨hhalted, hedge⟩ hnot
  · exact hwake

/-- What a wake-up changes (R241). -/
theorem takeEvent_frame_of_wake {p : Pins} {rest : List Event} (hhalted : s.halted = true)
    (henv : s.env = .pinsChange p :: rest)
    (hedge : wakeEdge s.chip.wake (pinLevels s) (pinLevels (withPins p s)) = true) :
    takeEvent s =
      { s with halted := false, exf := true, env := rest, pins := p, draws := (takeEvent s).draws,
               snd.on := (takeEvent s).snd.on } := by
  have hreset : resetDue s = false := resetDue_cons henv nofun
  have hevent := takeEvent_of_wake hhalted henv hedge
  have hrun : (takeEvent s).halted = false := by rw [hevent]; rfl
  have hexf : (takeEvent s).exf = true := by rw [hevent]; rfl
  have hpins : (takeEvent s).pins = p := by rw [hevent]; rfl
  have hrest : (takeEvent s).env = rest := by rw [hevent]; rfl
  have hframe := takeEvent_frame hreset
  rw [hrun, hexf, hpins, hrest] at hframe
  exact hframe

end

/-- Settles O5: the boundary after the event, with the bytes it fetches decoded or refused. -/
theorem stepRunsTheDecodedInstruction : Obligations.StepRunsTheDecodedInstruction := by
  intro s hreset hrun hdue
  have hstep : step s = runInstruction (takeEvent s) :=
    (step_of_no_reset hreset).trans (atBoundary_of_none_due hrun hdue)
  refine ⟨fun i hfetch => ?_, fun b1 hdecode => ?_, fun b1 b2 hdecode => ?_, takeEvent_nil, fun hrunning => ?_⟩
  · rw [hstep, runInstruction_of_ok hfetch]
    cases exec i (takeEvent s) <;> rfl
  · rw [hstep, runInstruction_of_error hdecode]; rfl
  · rw [hstep, runInstruction_of_error hdecode]; rfl
  · exact takeEvent_frame_of_not_wakes hreset (not_wakes_of_running hrunning)

/-- Settles O60: the state that each event leaves outside HALT. -/
theorem eventsOutsideHaltSetNothing : Obligations.EventsOutsideHaltSetNothing := by
  intro s rest hrun
  refine ⟨fun henv => ?idle, fun p henv => ?pins, fun henv => ?sound⟩
  case idle =>
    rw [step_of_no_reset (resetDue_cons henv nofun), takeEvent_idle henv]; rfl
  case pins =>
    rw [step_of_no_reset (resetDue_cons henv nofun), takeEvent_pinsChange henv]
    rcases pinsChanged_cases p (s.setEnv rest) with ⟨_, e⟩ | ⟨hhalted, _⟩
    · rw [e]; rfl
    · exact absurd (hrun.symm.trans hhalted) (by decide)
  case sound =>
    rw [step_of_no_reset (resetDue_cons henv nofun), takeEvent_soundEnds henv,
      soundEnded_running (s := s.setEnv rest) hrun]
    rfl

end Sys2Proof.Machine
end

section
/-! PROOFS. HALT mode and interrupts (60_exceptions.md sections 2 to 4; 46_subroutine_flag.md): staying halted, waking up,
entering a service routine and returning from it. -/

namespace Sys2Proof.Machine

/-! ## Taking an interrupt -/

section
variable {s u : State}

/-- The timer entry as the whole step, where `u` is the state after the event. -/
theorem step_timer_entry (hreset : resetDue s = false) (hu : takeEvent s = u) (hrun : u.halted = false)
    (hie : u.ie = true) (hsubf : u.subf = false) (htf : u.tf = true)
    (hfirst : u.exf = false ∨ u.chip.intPriority = .timerFirst) :
    step s = .next { u with stk := ⟨u.pc, u.c, true, true⟩, subf := true, tf := false, pc := 0x004#12 } := by
  rw [step_of_no_reset hreset, hu, atBoundary_of_due hrun (interruptDue_timer hie hsubf htf hfirst)]
  rfl

/-- The external entry, likewise. -/
theorem step_external_entry (hreset : resetDue s = false) (hu : takeEvent s = u) (hrun : u.halted = false)
    (hie : u.ie = true) (hsubf : u.subf = false) (hexf : u.exf = true)
    (hfirst : u.tf = false ∨ u.chip.intPriority = .externalFirst) :
    step s = .next { u with stk := ⟨u.pc, u.c, true, true⟩, subf := true, exf := false, pc := 0x008#12 } := by
  rw [step_of_no_reset hreset, hu, atBoundary_of_due hrun (interruptDue_external hie hsubf hexf hfirst)]
  rfl

theorem step_runs_of_none_due (hreset : resetDue s = false) (hu : takeEvent s = u) (hrun : u.halted = false)
    (hdue : u.ie = false ∨ u.subf = true ∨ (u.tf = false ∧ u.exf = false)) : step s = runInstruction u := by
  rw [step_of_no_reset hreset, hu, atBoundary_of_none_due hrun (interruptDue_none hdue)]

end

/-- Settles O48: outside HALT the event changes nothing that the choice of the interrupt depends on. -/
theorem interruptEntrySavesAndVectors : Obligations.InterruptEntrySavesAndVectors := by
  intro s hreset hrun
  have hframe := takeEvent_frame_of_not_wakes hreset (not_wakes_of_running hrun)
  generalize hu : takeEvent s = u at hframe
  refine ⟨u, hframe, fun henv => hu ▸ takeEvent_nil henv, ?timer, ?external, ?runs⟩
  case timer =>
    rw [hframe] at hu ⊢
    exact step_timer_entry hreset hu hrun
  case external =>
    rw [hframe] at hu ⊢
    exact step_external_entry hreset hu hrun
  case runs =>
    rw [hframe] at hu ⊢
    exact step_runs_of_none_due hreset hu hrun

/-- R195, Operation. -/
theorem exec_ei (s : State) : exec .ei s = .next ((s.setIe true).advance 1) := rfl

/-- Settles O36: the state EI leaves has IE set, so the pending source is taken at the next boundary. -/
theorem eiLetsAPendingInterruptInAtOnce : Obligations.EiLetsAPendingInterruptInAtOnce := by
  intro s
  refine ⟨_, exec_ei s, rfl, sameMemory_setIe_advance s true 1, fun henv hrun hsubf => ?_⟩
  have hreset : resetDue ((s.setIe true).advance 1) = false := resetDue_nil henv
  have hevent := takeEvent_nil (s := (s.setIe true).advance 1) henv
  exact ⟨step_timer_entry hreset hevent hrun rfl hsubf, step_external_entry hreset hevent hrun rfl hsubf⟩

/-- Settles O46: the wake-up sets EXF before the boundary, which then finds it pending. -/
theorem wakeUpResumesOrEntersTheInterrupt : Obligations.WakeUpResumesOrEntersTheInterrupt := by
  intro s p rest hhalted henv hedge
  have hreset : resetDue s = false := resetDue_cons henv nofun
  have hsound : s.snd.on = false → (takeEvent s).snd.on = false := fun hoff => by
    rcases takeEvent_snd_on hreset with e | ⟨_, e, _⟩
    · exact e.trans hoff
    · exact e
  have hframe := takeEvent_frame_of_wake hhalted henv hedge
  generalize hu : takeEvent s = u at hframe hsound
  refine ⟨u, hframe, hsound, ?external, ?timer, ?runs⟩
  case external =>
    rw [hframe] at hu ⊢
    exact fun hie hsubf => step_external_entry hreset hu rfl hie hsubf rfl
  case timer =>
    rw [hframe] at hu ⊢
    exact fun hie hsubf htf hfirst => step_timer_entry hreset hu rfl hie hsubf htf (.inr hfirst)
  case runs =>
    rw [hframe] at hu ⊢
    exact fun hheld => step_runs_of_none_due hreset hu rfl (or_assoc.mp (.inl hheld))

/-! ## Staying halted -/

/-- An event that neither resets nor wakes a halted chip changes the record of the outside only. -/
theorem takeEvent_frame_of_halted {s : State} (hhalted : s.halted = true) (hreset : resetDue s = false)
    (hsleeps : ¬Wakes s) :
    takeEvent s = { s with env := s.env.tail, pins := (takeEvent s).pins, draws := (takeEvent s).draws } := by
  have hon : (takeEvent s).snd.on = s.snd.on := by
    rcases takeEvent_snd_on hreset with e | ⟨_, _, ⟨_, _, hrun⟩ | hwakes⟩
    · exact e
    · exact absurd (hhalted.symm.trans hrun) (by decide)
    · exact absurd hwakes hsleeps
  have hframe := takeEvent_frame_of_not_wakes hreset hsleeps
  rw [hon] at hframe
  exact hframe

/-- The step of a halted chip that nothing wakes. -/
theorem step_halted {s : State} (hhalted : s.halted = true) (hreset : resetDue s = false) (hsleeps : ¬Wakes s) :
    ∃ t, step s = .next t ∧ SameMemory s t ∧ t = { s with env := s.env.tail, pins := t.pins, draws := t.draws } := by
  have hframe := takeEvent_frame_of_halted hhalted hreset hsleeps
  have hstays : (takeEvent s).halted = true := by rw [hframe]; exact hhalted
  refine ⟨takeEvent s, (step_of_no_reset hreset).trans (atBoundary_of_halted hstays), ?_, hframe⟩
  rw [hframe]
  exact sameMemory_of_ram_era_rom rfl rfl rfl

/-- Settles O45: without an edge there is no wake-up. -/
theorem haltedChipStaysAsItIs : Obligations.HaltedChipStaysAsItIs := by
  intro s hhalted hreset hnoEdge
  refine step_halted hhalted hreset ?_
  rintro ⟨_, p, rest, henv, hedge⟩
  exact absurd (hedge.symm.trans (hnoEdge p rest henv)) (by decide)

theorem wakeEdge_none (before after : Config.PinMask) : wakeEdge ⟨0#4, 0#4⟩ before after = false := by
  simp [wakeEdge]

theorem resetDue_of_not_mem {s : State} (h : Event.resetPulse ∉ s.env) : resetDue s = false := by
  cases henv : s.env with
  | nil => exact resetDue_nil henv
  | cons e rest => exact resetDue_cons henv fun he => h (by simp [henv, he])

theorem SameMemory.trans {s t u : State} (hst : SameMemory s t) (htu : SameMemory t u) : SameMemory s u :=
  ⟨fun a => (htu.1 a).trans (hst.1 a), fun p => (htu.2 p).trans (hst.2 p)⟩

theorem core_run_succ {s t : State} (k : Nat) (h : step s = .next t) : core.run (k + 1) s = core.run k t := by
  have hcore : core.step s = .next t := h
  simp [Host.Core.run, hcore]

/-- Settles O47: by induction on the number of steps, each of which keeps the chip halted. -/
theorem haltWithoutWakeOptionIsForEver : Obligations.HaltWithoutWakeOptionIsForEver := by
  intro k
  induction k with
  | zero => exact fun s hhalted _ _ => ⟨s, rfl, hhalted, rfl, rfl, fun _ => rfl, fun _ => rfl⟩
  | succ k ih =>
    intro s hhalted hwake hnoReset
    have hsleeps : ¬Wakes s := by
      rintro ⟨_, p, rest, _, hedge⟩
      rw [hwake, wakeEdge_none] at hedge
      cases hedge
    obtain ⟨t, hstep, hmem, ht⟩ := step_halted hhalted (resetDue_of_not_mem hnoReset) hsleeps
    have hhalted' : t.halted = true := by rw [ht]; exact hhalted
    have hwake' : t.chip.wake = ⟨0#4, 0#4⟩ := by rw [ht]; exact hwake
    have hnoReset' : Event.resetPulse ∉ t.env := by
      rw [ht]
      exact fun hmem => hnoReset (List.mem_of_mem_tail hmem)
    have hpc : t.pc = s.pc := by rw [ht]
    have hacc : t.acc = s.acc := by rw [ht]
    obtain ⟨u, hrun, hu, hupc, huacc, humem⟩ := ih t hhalted' hwake' hnoReset'
    exact ⟨u, (core_run_succ k hstep).trans hrun, hu, hupc.trans hpc, huacc.trans hacc, hmem.trans humem⟩

/-! ## Subroutines and service routines (R190-R192, R240) -/

/-- R191, Operation. -/
theorem exec_ret {s : State} (h : s.stk.written = true) : exec .ret s = .next ((s.setPc s.stk.pc).setSubf false) := by
  simp [exec, execRet, returnFrom, h]

/-- R192, Operation. -/
theorem exec_reti {s : State} (h : s.stk.written = true) :
    exec .reti s = .next (((s.setCarry s.savedCarry).setPc s.stk.pc).setSubf false) := by
  simp [exec, execReti, returnFrom, h]

theorem exec_ret_unwritten {s : State} (h : s.stk.written = false) : exec .ret s = .fault (.stackUnwritten s.pc) := by
  simp [exec, execRet, returnFrom, h]

theorem exec_reti_unwritten {s : State} (h : s.stk.written = false) : exec .reti s = .fault (.stackUnwritten s.pc) := by
  simp [exec, execReti, returnFrom, h]

theorem savedCarry_of_cWritten {s : State} (h : s.stk.cWritten = true) : s.savedCarry = s.stk.c := if_pos h

theorem savedCarry_of_not_cWritten {s : State} (h : s.stk.cWritten = false) :
    s.savedCarry = Config.stkCAtReset s.era := by
  simp [State.savedCarry, h]

/-- R190, Operation. -/
theorem exec_call {s : State} (addr : BitVec 12) (h : s.subf = false) :
    exec (.call addr) s =
      .next (((s.setStk { s.stk with pc := s.nxt 2, written := true }).setSubf true).setPc addr) := by
  simp [exec, execCall, h]

theorem exec_call_nested {s : State} (addr : BitVec 12) (h : s.subf = true) :
    exec (.call addr) s = .fault (.nestedCall s.pc) := by
  simp [exec, execCall, h]

/-- Settles O32: the two branches of R190 and R198. -/
theorem callPushesOrFaults : Obligations.CallPushesOrFaults := fun _ addr =>
  ⟨fun hsubf => ⟨exec_call addr hsubf, sameMemory_of_ram_era_rom rfl rfl rfl⟩, exec_call_nested addr⟩

/-- Settles O33: R191 and R192 for each state of the stack register. -/
theorem returnsRestoreOrFault : Obligations.ReturnsRestoreOrFault := by
  intro s
  refine ⟨fun hwritten => ⟨?ret, fun hc => ?saved, fun hc => ?free⟩,
    fun h => ⟨exec_ret_unwritten h, exec_reti_unwritten h⟩⟩
  case ret => exact ⟨exec_ret hwritten, sameMemory_of_ram_era_rom rfl rfl rfl⟩
  case saved =>
    exact ⟨by rw [exec_reti hwritten, savedCarry_of_cWritten hc]; rfl, sameMemory_of_ram_era_rom rfl rfl rfl⟩
  case free =>
    exact ⟨by rw [exec_reti hwritten, savedCarry_of_not_cWritten hc]; rfl, sameMemory_of_ram_era_rom rfl rfl rfl⟩

/-- Settles O34: the CALL leaves a written stack register with the address after it and the old STK.c. -/
theorem callThenReturn : Obligations.CallThenReturn := by
  intro s addr hsubf
  refine ⟨_, exec_call addr hsubf, rfl, rfl, fun v hstk => ?_⟩
  have hwritten : v.stk.written = true := by rw [hstk]; rfl
  have hpc : v.stk.pc = s.pc + 2#12 := by rw [hstk]; rfl
  have hcarry : v.savedCarry = if s.stk.cWritten then s.stk.c else Config.stkCAtReset v.era := by
    rw [State.savedCarry, hstk]; rfl
  exact ⟨by rw [exec_ret hwritten, hpc]; rfl, by rw [exec_reti hwritten, hpc, hcarry]; rfl⟩

/-- Settles O49: the entry leaves a stack register with PC and C, both written. -/
theorem serviceRoutineReturnsToTheInterrupted : Obligations.ServiceRoutineReturnsToTheInterrupted := by
  intro s v src hstk
  rw [interruptEntry_eq] at hstk
  have hwritten : v.stk.written = true := by rw [hstk]
  have hpc : v.stk.pc = s.pc := by rw [hstk]
  have hcarry : v.savedCarry = s.c := by rw [savedCarry_of_cWritten (by rw [hstk]), hstk]
  exact ⟨by rw [exec_reti hwritten, hpc, hcarry]; rfl, by rw [exec_ret hwritten, hpc]; rfl⟩

end Sys2Proof.Machine
end

section
/-! PROOFS. The sound state influences nothing but itself (49_sound_halt.md R226): each part of a step, run with another sound
state, gives the same outcome up to the sound state. -/

namespace Sys2Proof.Machine

/-! ## The event of the outside -/

theorem pinsChanged_setSnd (p : Pins) (s : State) (x : Sound) :
    ∃ y, pinsChanged p (s.setSnd x) = (pinsChanged p s).setSnd y := by
  have hlevels : ∀ t : State, pinLevels (t.setSnd x) = pinLevels t := fun _ => rfl
  have hpins : withPins p (s.setSnd x) = (withPins p s).setSnd x := rfl
  rcases pinsChanged_cases p s with ⟨hnot, e⟩ | ⟨hhalted, hedge, e⟩ <;>
    rcases pinsChanged_cases p (s.setSnd x) with ⟨hnot', e'⟩ | ⟨hhalted', hedge', e'⟩ <;> rw [e, e']
  · exact ⟨x, rfl⟩
  · exact absurd ⟨hhalted', hedge'⟩ hnot
  · exact absurd ⟨hhalted, hedge⟩ hnot'
  · exact ⟨_, rfl⟩

/-- The event makes the same of both states, except for the sound state. -/
theorem takeEvent_setSnd (s : State) (x : Sound) : ∃ y, takeEvent (s.setSnd x) = (takeEvent s).setSnd y := by
  cases henv : s.env with
  | nil => exact ⟨x, by rw [takeEvent_nil henv, takeEvent_nil (s := s.setSnd x) henv]⟩
  | cons e rest =>
    cases e with
    | idle => exact ⟨x, by rw [takeEvent_idle henv, takeEvent_idle (s := s.setSnd x) henv]; rfl⟩
    | resetPulse =>
      have hpulse : ∀ t : State, t.env = .resetPulse :: rest → takeEvent t = resetPulse (t.setEnv rest) :=
        fun t ht => by simp [takeEvent, ht]
      exact ⟨⟨false, Config.sndChAtReset s.draws, false⟩, by rw [hpulse s henv, hpulse (s.setSnd x) henv]; rfl⟩
    | pinsChange p =>
      rw [takeEvent_pinsChange henv, takeEvent_pinsChange (s := s.setSnd x) henv]
      exact pinsChanged_setSnd p (s.setEnv rest) x
    | soundEnds =>
      rw [takeEvent_soundEnds henv, takeEvent_soundEnds (s := s.setSnd x) henv, soundEnded_eq, soundEnded_eq]
      exact ⟨_, rfl⟩

/-! ## One instruction -/

theorem forgetSound_memRead {s : State} {x : Sound} {a : DataAddr} {k k' : Nibble → Result}
    (hk : ∀ m, forgetSound (k m) = forgetSound (k' m)) :
    forgetSound (memRead (s.setSnd x) a k) = forgetSound (memRead s a k') := by
  cases ha : ramExists a.toNat with
  | true => rw [memRead_usable _ _ _ ha, memRead_usable _ _ _ ha, State.setSnd_cell, hk]
  | false => rw [memRead_undefined _ _ _ ha, memRead_undefined _ _ _ ha]

theorem forgetSound_memWrite {s : State} {x : Sound} {a : DataAddr} {v : Nibble} {k k' : State → Result}
    (hk : ∀ t, forgetSound (k (State.setSnd t x)) = forgetSound (k' t)) :
    forgetSound (memWrite (s.setSnd x) a v k) = forgetSound (memWrite s a v k') := by
  cases ha : ramExists a.toNat with
  | true => rw [memWrite_usable _ _ _ _ ha, memWrite_usable _ _ _ _ ha]; exact hk (s.setCell a v)
  | false => rw [memWrite_undefined _ _ _ _ ha, memWrite_undefined _ _ _ _ ha]

theorem forgetSound_updateCell (s : State) (x : Sound) (a : DataAddr) (g : Nibble → Nibble) :
    forgetSound (updateCell (s.setSnd x) a g) = forgetSound (updateCell s a g) :=
  forgetSound_memRead fun _ => forgetSound_memWrite fun _ => rfl

theorem forgetSound_tableToR4 (s : State) (x : Sound) (page : Nibble) :
    forgetSound (tableToR4 (s.setSnd x) page) = forgetSound (tableToR4 s page) :=
  forgetSound_memRead fun _ => rfl

theorem forgetSound_tableToCell (s : State) (x : Sound) (page : Nibble) :
    forgetSound (tableToCell (s.setSnd x) page) = forgetSound (tableToCell s page) := by
  simp only [tableToCell]
  exact forgetSound_memWrite fun _ => rfl

theorem forgetSound_returnFrom (b : Bool) (s : State) (x : Sound) :
    forgetSound (returnFrom b (s.setSnd x)) = forgetSound (returnFrom b s) := by
  have hbranch : ∀ t : State, returnFrom b t = if t.stk.written then
      .next (((if b then t.setCarry t.savedCarry else t).setPc t.stk.pc).setSubf false)
      else .fault (.stackUnwritten t.pc) := fun _ => rfl
  rw [hbranch, hbranch, State.setSnd_stk]
  split
  · cases b <;> rfl
  · rfl

theorem forgetSound_execCall (addr : BitVec 12) (s : State) (x : Sound) :
    forgetSound (execCall addr (s.setSnd x)) = forgetSound (execCall addr s) := by
  cases hsubf : s.subf with
  | true => rw [execCall, execCall, State.setSnd_subf, hsubf]; rfl
  | false => rw [execCall, execCall, State.setSnd_subf, hsubf]; rfl

theorem daa_setSnd (s : State) (x : Sound) : decimalAdjust (s.setSnd x) = (decimalAdjust s).setSnd x := by
  have hsame : daaAdjusts (s.setSnd x) = daaAdjusts s := rfl
  unfold decimalAdjust
  rw [hsame]
  split <;> rfl

/-- No instruction's effect outside the sound state depends on the sound state. -/
theorem forgetSound_exec (i : Instr) (s : State) (x : Sound) :
    forgetSound (exec i (s.setSnd x)) = forgetSound (exec i s) := by
  cases i with
  | addAM10 | adcAM10 | subAM10 | sbcAM10 | movAM10 | movAM32 | andAM10 | orAM10 | xorAM10 =>
    simp only [exec]
    exact forgetSound_memRead fun _ => rfl
  | movM10A | movM32A =>
    simp only [exec]
    exact forgetSound_memWrite fun _ => rfl
  | readR4a => exact forgetSound_tableToR4 s x (currentPage s)
  | readfR4a => exact forgetSound_tableToR4 s x 0xF#4
  | readMr0a => exact forgetSound_tableToCell s x (currentPage s)
  | readfMr0a => exact forgetSound_tableToCell s x 0xF#4
  | incM10 | decM10 | incM32 | decM32 | andM10A | orM10A | xorM10A =>
    simp only [exec]
    exact forgetSound_updateCell s x _ _
  | daa =>
    show forgetSound (.next ((decimalAdjust (s.setSnd x)).advance 1)) = _
    rw [daa_setSnd]; rfl
  | ret => exact forgetSound_returnFrom false s x
  | reti => exact forgetSound_returnFrom true s x
  | call addr => exact forgetSound_execCall addr s x
  | _ => rfl

/-! ## The boundary -/

theorem timerClocks_setSnd (k : Nat) (s : State) (x : Sound) :
    timerClocks k (s.setSnd x) = (timerClocks k s).setSnd x := by
  induction k generalizing s with
  | zero => rfl
  | succ k ih => exact ih (timerClock s)

theorem timerAfter_setSnd (cyc : Nat) (s : State) (x : Sound) :
    timerAfter cyc (s.setSnd x) = (timerAfter cyc s).setSnd x := by
  by_cases hrun : s.ton = true ∧ s.halted = false
  · rw [timerAfter_running cyc hrun.1 hrun.2, timerAfter_running (s := s.setSnd x) cyc hrun.1 hrun.2]
    exact timerClocks_setSnd (clocksDue cyc s) (s.setPhase _) x
  · rw [timerAfter_stopped cyc hrun, timerAfter_stopped (s := s.setSnd x) cyc hrun]

/-- The end of an instruction can be taken after the sound state is forgotten. -/
theorem forgetSound_finish (i : Instr) (r : Result) : forgetSound (finish i r) = finish i (forgetSound r) := by
  cases r with
  | next t => exact congrArg Host.Outcome.next (timerAfter_setSnd i.cycles t _).symm
  | fault f => rfl
  | refused x => rfl

theorem forgetSound_runInstruction (s : State) (x : Sound) :
    forgetSound (runInstruction (s.setSnd x)) = forgetSound (runInstruction s) := by
  have hfetch : fetch (s.setSnd x) = fetch s := rfl
  cases hdecode : decode (fetch s).1 (fetch s).2 with
  | ok i =>
    rw [runInstruction_of_ok hdecode, runInstruction_of_ok (s := s.setSnd x) hdecode, forgetSound_finish,
      forgetSound_finish, forgetSound_exec]
  | error e => rw [runInstruction_of_error hdecode, runInstruction_of_error (s := s.setSnd x) hdecode]; rfl

theorem forgetSound_interruptEntry (src : IntSource) (s : State) (x : Sound) :
    forgetSound (.next (interruptEntry src (s.setSnd x))) = forgetSound (.next (interruptEntry src s)) := by
  rw [interruptEntry_eq, interruptEntry_eq]; rfl

theorem forgetSound_atBoundary (s : State) (x : Sound) :
    forgetSound (atBoundary (s.setSnd x)) = forgetSound (atBoundary s) := by
  cases hhalted : s.halted with
  | true => rw [atBoundary_of_halted hhalted, atBoundary_of_halted (s := s.setSnd x) hhalted]; rfl
  | false =>
    cases hdue : interruptDue s with
    | some src =>
      rw [atBoundary_of_due hhalted hdue, atBoundary_of_due (s := s.setSnd x) hhalted hdue,
        forgetSound_interruptEntry]
    | none =>
      rw [atBoundary_of_none_due hhalted hdue, atBoundary_of_none_due (s := s.setSnd x) hhalted hdue,
        forgetSound_runInstruction]

/-- Settles O44: the event makes the same of both states up to the sound state, and so does the boundary. -/
theorem soundStateInfluencesNothing : Obligations.SoundStateInfluencesNothing := by
  intro s x
  obtain ⟨y, hevent⟩ := takeEvent_setSnd s x
  cases hreset : resetDue s with
  | true =>
    have hstep : ∀ t : State, resetDue t = true → step t = .next (takeEvent t) := fun t ht => by
      simp [step, stepOnce, ht]
    rw [hstep s hreset, hstep (s.setSnd x) hreset, hevent]; rfl
  | false =>
    rw [step_of_no_reset hreset, step_of_no_reset (s := s.setSnd x) hreset, hevent, forgetSound_atBoundary]

end Sys2Proof.Machine
end

section
/-! PROOFS. The instructions with a memory operand (20_memory.md section 3; R121-R148, R153-R156): reads at a usable address go
on with the cell's value, writes change that one cell, and each family of instructions is one rule over the function it
applies. -/

namespace Sys2Proof.Machine

/-! ## Usable addresses (R66) -/

theorem ramExists_iff_usable (a : DataAddr) : ramExists a.toNat = true ↔ Usable a := by
  have hlt : a.toNat < 256 := a.isLt
  rw [ramExists, decide_eq_true_iff, Usable]
  omega

theorem ramExists_of_usable {a : DataAddr} (h : Usable a) : ramExists a.toNat = true := (ramExists_iff_usable a).mpr h

theorem ramExists_of_not_usable {a : DataAddr} (h : ¬Usable a) : ramExists a.toNat = false := by
  rw [← Bool.not_eq_true, ramExists_iff_usable]
  exact h

/-- RAM written at `a`, and nothing else that a read of memory sees. -/
theorem storedOnly_of_ram_put {s t : State} {a : DataAddr} {v : Nibble} (hram : t.ram = Memory.put s.ram a.toNat v)
    (hera : t.era = s.era) (hrom : t.rom = s.rom) : StoredOnly s t a v :=
  ⟨by simp [State.cell, hram], fun _ hb => State.cell_of_ram_put hram hera hb, State.romByte_of_rom hrom⟩

/-- Settles O13: a usable address is one where the cell exists. -/
theorem cellReadsTheLastValueWritten : Obligations.CellReadsTheLastValueWritten := by
  intro s a v
  refine ⟨fun ha => ?usable, fun ha => ?undefined⟩
  case usable =>
    have hexists := ramExists_of_usable ha
    exact ⟨fun k => memRead_usable s a k hexists, s.setCell a v, storedOnly_of_ram_put rfl rfl rfl,
      fun k => memWrite_usable s a v k hexists⟩
  case undefined =>
    have hmissing := ramExists_of_not_usable ha
    exact ⟨fun k => memRead_undefined s a k hmissing, fun k => memWrite_undefined s a v k hmissing⟩

/-! ## One rule per family -/

section
variable {i : Instr} {s : State} {a : DataAddr}

/-- An instruction that puts a function `g` of a cell into ACC. -/
theorem accFromCell_next (g : Nibble → Nibble) (ha : Usable a)
    (hexec : exec i s = memRead s a fun m => .next ((s.setAcc (g m)).advance 1)) :
    let t := (s.setAcc (g (s.cell a))).advance 1
    exec i s = .next t ∧ SameMemory s t :=
  ⟨hexec.trans (memRead_usable s a _ (ramExists_of_usable ha)), sameMemory_setAcc_advance s _ 1⟩

/-- An instruction that stores `v` in a cell. -/
theorem storeCell_next {v : Nibble} (ha : Usable a) (hexec : exec i s = memWrite s a v fun t => .next (t.advance 1)) :
    ∃ t, exec i s = .next t ∧ StoredOnly s t a v ∧ t = { s with ram := t.ram, pc := s.pc + 1#12 } :=
  ⟨(s.setCell a v).advance 1, hexec.trans (memWrite_usable s a v _ (ramExists_of_usable ha)),
    storedOnly_of_ram_put rfl rfl rfl, rfl⟩

/-- An instruction that replaces a cell by a function `g` of it. -/
theorem modifyCell_next (g : Nibble → Nibble) (ha : Usable a) (hexec : exec i s = updateCell s a g) :
    ∃ t, exec i s = .next t ∧ StoredOnly s t a (g (s.cell a)) ∧ t = { s with ram := t.ram, pc := s.pc + 1#12 } :=
  storeCell_next ha (hexec.trans (memRead_usable s a _ (ramExists_of_usable ha)))

end

/-! ## Logic (41_logic.md) -/

/-- An immediate instruction that writes ACC. -/
theorem accImmediate_next {i : Instr} {s : State} {v : Nibble} (hexec : exec i s = .next ((s.setAcc v).advance 2)) :
    let t := (s.setAcc v).advance 2
    exec i s = .next t ∧ SameMemory s t :=
  ⟨hexec, sameMemory_setAcc_advance s v 2⟩

/-- Settles O18: the memory forms and the immediate forms of the three operations. -/
theorem logicOnTheAccumulator : Obligations.LogicOnTheAccumulator := fun s =>
  ⟨fun ha => ⟨accFromCell_next (s.acc &&& ·) ha rfl, accFromCell_next (s.acc ||| ·) ha rfl,
      accFromCell_next (s.acc ^^^ ·) ha rfl⟩,
    fun _ => ⟨accImmediate_next rfl, accImmediate_next rfl, accImmediate_next rfl⟩⟩

/-- Settles O19: the three operations on the addressed cell. -/
theorem logicOnMemory : Obligations.LogicOnMemory := fun s ha =>
  ⟨modifyCell_next (· &&& s.acc) ha rfl, modifyCell_next (· ||| s.acc) ha rfl, modifyCell_next (· ^^^ s.acc) ha rfl⟩

/-! ## INC, DEC and the moves -/

/-- Settles O21: up and down by one, at either pointer. -/
theorem incrementAndDecrementMemory : Obligations.IncrementAndDecrementMemory := fun _ =>
  ⟨fun ha => ⟨modifyCell_next (· + 1#4) ha rfl, modifyCell_next (· - 1#4) ha rfl⟩,
    fun ha => ⟨modifyCell_next (· + 1#4) ha rfl, modifyCell_next (· - 1#4) ha rfl⟩⟩

theorem toNat_append_eq {m n : Nat} (x : BitVec m) (y : BitVec n) : (x ++ y).toNat = 2 ^ n * x.toNat + y.toNat := by
  rw [BitVec.toNat_append, ← Nat.shiftLeft_add_eq_or_of_lt y.isLt, Nat.shiftLeft_eq, Nat.mul_comm]

/-- Settles O25: loads and stores at either pointer, whose high nibble is the odd register (R23). -/
theorem loadsAndStoresThroughPointers : Obligations.LoadsAndStoresThroughPointers := fun _ =>
  ⟨fun ha => ⟨accFromCell_next id ha rfl, storeCell_next ha rfl⟩,
    fun ha => ⟨accFromCell_next id ha rfl, storeCell_next ha rfl⟩, toNat_append_eq _ _, toNat_append_eq _ _⟩

end Sys2Proof.Machine
end

section
/-! PROOFS. The arithmetic instructions (40_arithmetic.md R120-R127): the 5-bit sum as arithmetic, for addition, for
subtraction by the complement, and for the decimal adjustment. -/

namespace Sys2Proof.Machine

/-! ## The 5-bit sum (R10, R120) -/

theorem add4_lt (x y : Nibble) (cin : Bool) : add4 x y cin < 32 := by
  have hx : x.toNat < 16 := x.isLt
  have hy : y.toNat < 16 := y.isLt
  have hc : cin.toNat ≤ 1 := cin.toNat_le
  unfold add4
  omega

theorem sum4_toNat (t : Nat) : (sum4 t).toNat = t % 16 := BitVec.toNat_ofNat t 4

theorem carry4_eq {t : Nat} (h : t < 32) : carry4 t = decide (16 ≤ t) := by
  rw [carry4, Nat.testBit_eq_decide_div_mod_eq, decide_eq_decide]
  omega

/-! ## Addition and subtraction -/

/-- What adding `y` and `cin` to ACC leaves. -/
theorem addToAcc_result (y : Nibble) (cin : Bool) (len : Nat) (s : State) :
    let t := (addToAcc y cin s).advance len
    SameMemory s t ∧ t = { s with acc := t.acc, c := t.c, pc := s.pc + BitVec.ofNat 12 len } ∧
      t.acc.toNat = (s.acc.toNat + y.toNat + cin.toNat) % 16 ∧
      t.c = decide (16 ≤ s.acc.toNat + y.toNat + cin.toNat) :=
  ⟨sameMemory_setAcc_setCarry_advance s _ _ len, rfl, sum4_toNat _, carry4_eq (add4_lt _ _ _)⟩

/-- What subtracting `y`, and one more where `cin` is clear, leaves. -/
theorem subFromAcc_result (y : Nibble) (cin : Bool) (len : Nat) (s : State) :
    let t := (subFromAcc y cin s).advance len
    SameMemory s t ∧ t = { s with acc := t.acc, c := t.c, pc := s.pc + BitVec.ofNat 12 len } ∧
      t.acc.toNat = (s.acc.toNat + 16 - (y.toNat + (1 - cin.toNat))) % 16 ∧
      t.c = decide (y.toNat + (1 - cin.toNat) ≤ s.acc.toNat) := by
  obtain ⟨hmem, hframe, hacc, hc⟩ := addToAcc_result (~~~y) cin len s
  have hy : y.toNat < 16 := y.isLt
  have hcin : cin.toNat ≤ 1 := cin.toNat_le
  have hnot : (~~~y).toNat = 15 - y.toNat := BitVec.toNat_not
  refine ⟨hmem, hframe, hacc.trans ?_, hc.trans ?_⟩
  · rw [hnot]
    congr 1
    omega
  · rw [hnot, decide_eq_decide]
    omega

section
variable {i : Instr} {s : State} {a : DataAddr}

/-- An instruction that goes on with a function `g` of a cell. -/
theorem readCell_next (g : Nibble → State) (ha : Usable a) (hexec : exec i s = memRead s a fun m => .next (g m)) :
    exec i s = .next (g (s.cell a)) :=
  hexec.trans (memRead_usable s a _ (ramExists_of_usable ha))

end

/-- Settles O14: ADD without and ADC with the carry in. -/
theorem additionResultAndCarry : Obligations.AdditionResultAndCarry := fun s =>
  ⟨fun ha =>
    ⟨⟨_, readCell_next (fun m => (addToAcc m false s).advance 1) ha rfl, addToAcc_result _ false 1 s⟩,
      ⟨_, readCell_next (fun m => (addToAcc m s.c s).advance 1) ha rfl, addToAcc_result _ s.c 1 s⟩⟩,
    fun d => ⟨_, rfl, addToAcc_result d false 2 s⟩⟩

/-- Settles O15: SUB adds the complement and 1, SBC the complement and C. -/
theorem subtractionResultAndBorrow : Obligations.SubtractionResultAndBorrow := fun s =>
  ⟨fun ha =>
    ⟨⟨_, readCell_next (fun m => (subFromAcc m true s).advance 1) ha rfl, subFromAcc_result _ true 1 s⟩,
      ⟨_, readCell_next (fun m => (subFromAcc m s.c s).advance 1) ha rfl, subFromAcc_result _ s.c 1 s⟩⟩,
    fun d => ⟨_, rfl, subFromAcc_result d true 2 s⟩⟩

/-! ## Decimal adjustment (R127) -/

theorem daaAdjusts_iff (s : State) : daaAdjusts s = true ↔ 9 < s.acc.toNat ∨ s.c = true := by
  rw [daaAdjusts, Bool.or_eq_true, decide_eq_true_iff]

/-- R127, Operation. -/
theorem exec_daa (s : State) : exec .daa s = .next ((decimalAdjust s).advance 1) := rfl

theorem decimalAdjust_of_adjusts {s : State} (h : 9 < s.acc.toNat ∨ s.c = true) :
    decimalAdjust s = (s.setAcc (s.acc + 6#4)).setCarry true :=
  if_pos ((daaAdjusts_iff s).mpr h)

theorem decimalAdjust_of_not_adjusts {s : State} (h : ¬(9 < s.acc.toNat ∨ s.c = true)) : decimalAdjust s = s :=
  if_neg (mt (daaAdjusts_iff s).mp h)

/-- Settles O16: the two branches of R127. -/
theorem decimalAdjustResult : Obligations.DecimalAdjustResult := by
  intro s
  refine ⟨fun h => ⟨((s.setAcc (s.acc + 6#4)).setCarry true).advance 1, ?adjusts, BitVec.toNat_add _ _, rfl,
      sameMemory_setAcc_setCarry_advance s _ _ 1⟩, fun h => ⟨?stays, sameMemory_advance s 1⟩⟩
  case adjusts => rw [exec_daa, decimalAdjust_of_adjusts h]
  case stays => rw [exec_daa, decimalAdjust_of_not_adjusts h]; rfl

theorem execSeq_cons_of_next {i : Instr} {is : List Instr} {s t : State} (h : exec i s = .next t) :
    execSeq (i :: is) s = execSeq is t := by
  simp [execSeq, h]

theorem execSeq_nil (s : State) : execSeq [] s = .next s := rfl

/-- Settles O17: the sum is at most 19, so a carry out of bit 3 or a digit above 9 is worth ten, and adding 6 modulo 16
takes that ten away. -/
theorem decimalAdditionOfDigits : Obligations.DecimalAdditionOfDigits := by
  intro s ha hdigit hcell
  obtain ⟨_, u, hadc, _, _, hacc, hc⟩ := (additionResultAndCarry s).1 ha
  have hcin : s.c.toNat ≤ 1 := s.c.toNat_le
  by_cases hadjusts : 9 < u.acc.toNat ∨ u.c = true
  · obtain ⟨t, hdaa, htacc, ht, _⟩ := (decimalAdjustResult u).1 hadjusts
    have htc : t.c = true := congrArg State.c ht
    refine ⟨t, by rw [execSeq_cons_of_next hadc, execSeq_cons_of_next hdaa, execSeq_nil], ?_⟩
    rw [hc, decide_eq_true_iff] at hadjusts
    rw [htc, htacc]
    show _ ∧ 10 * 1 + _ = _
    omega
  · obtain ⟨hdaa, _⟩ := (decimalAdjustResult u).2 hadjusts
    refine ⟨_, by rw [execSeq_cons_of_next hadc, execSeq_cons_of_next hdaa, execSeq_nil], ?_⟩
    show u.acc.toNat ≤ 9 ∧ 10 * u.c.toNat + u.acc.toNat = _
    obtain ⟨hsmall, hclear⟩ := not_or.mp hadjusts
    have hsum : ¬16 ≤ s.acc.toNat + (s.cell (dp10 s)).toNat + s.c.toNat := fun h =>
      hclear (hc.trans (decide_eq_true h))
    rw [Bool.not_eq_true _ |>.mp hclear]
    show _ ∧ 10 * 0 + _ = _
    omega

end Sys2Proof.Machine
end

section
/-! PROOFS. Rotates in a row (44_rotate_io.md section 1): a rotate is a function of ACC and C, so k of them are its k-th
iterate, and the iterate that comes round is checked on the 32 values of ACC and C. -/

namespace Sys2Proof.Machine

/-- `g` gives ACC and C after the 1-byte instruction `i` from ACC and C before, and only they and PC change. -/
def ActsOnAccAndCarry (i : Instr) (g : Nibble × Bool → Nibble × Bool) : Prop :=
  ∀ s : State, exec i s = .next { s with acc := (g (s.acc, s.c)).1, c := (g (s.acc, s.c)).2, pc := s.pc + 1#12 }

theorem execSeq_replicate {i : Instr} {g : Nibble × Bool → Nibble × Bool} (h : ActsOnAccAndCarry i g) (k : Nat) :
    ∀ s : State, execSeq (List.replicate k i) s =
      .next { s with acc := (g^[k] (s.acc, s.c)).1, c := (g^[k] (s.acc, s.c)).2, pc := s.pc + BitVec.ofNat 12 k } := by
  induction k with
  | zero => intro s; simp [execSeq]
  | succ k ih =>
    intro s
    rw [List.replicate_succ, execSeq_cons_of_next (h s), ih, Function.iterate_succ_apply]
    simp only [BitVec.add_assoc, ← BitVec.ofNat_add, Nat.add_comm 1 k]

/-- ACC and C after `RL A` (R165). -/
def turnLeft (x : Nibble × Bool) : Nibble × Bool := (x.1.extractLsb' 0 3 ++ x.1.extractLsb' 3 1, x.1.getLsbD 3)

/-- ACC and C after `RR A` (R167). -/
def turnRight (x : Nibble × Bool) : Nibble × Bool := (x.1.extractLsb' 0 1 ++ x.1.extractLsb' 1 3, x.1.getLsbD 0)

/-- ACC and C after `RLC A` (R166). -/
def turnLeftCarry (x : Nibble × Bool) : Nibble × Bool := (x.1.extractLsb' 0 3 ++ BitVec.ofBool x.2, x.1.getLsbD 3)

/-- ACC and C after `RRC A` (R168). -/
def turnRightCarry (x : Nibble × Bool) : Nibble × Bool := (BitVec.ofBool x.2 ++ x.1.extractLsb' 1 3, x.1.getLsbD 0)

theorem turnLeft_four : ∀ (a : Nibble) (b : Bool), turnLeft^[4] (a, b) = (a, a.getLsbD 0) := by decide

theorem turnRight_four : ∀ (a : Nibble) (b : Bool), turnRight^[4] (a, b) = (a, a.getLsbD 3) := by decide

theorem turnLeftCarry_five : ∀ (a : Nibble) (b : Bool), turnLeftCarry^[5] (a, b) = (a, b) := by decide

theorem turnRightCarry_five : ∀ (a : Nibble) (b : Bool), turnRightCarry^[5] (a, b) = (a, b) := by decide

/-- Settles O27: four turns of four bits, five turns of ACC with C. -/
theorem repeatedRotatesRestore : Obligations.RepeatedRotatesRestore := by
  intro s
  refine ⟨?rl, ?rr, ?rlc, ?rrc⟩
  case rl => exact (execSeq_replicate (g := turnLeft) exec_rlA 4 s).trans (by rw [turnLeft_four])
  case rr => exact (execSeq_replicate (g := turnRight) exec_rrA 4 s).trans (by rw [turnRight_four])
  case rlc => exact (execSeq_replicate (g := turnLeftCarry) exec_rlcA 5 s).trans (by rw [turnLeftCarry_five])
  case rrc => exact (execSeq_replicate (g := turnRightCarry) exec_rrcA 5 s).trans (by rw [turnRightCarry_five])

end Sys2Proof.Machine
end

section
/-! PROOFS. Ports, program addresses and table reads (44_rotate_io.md section 2; 20_memory.md R61; 45_branch.md R175;
48_tableread.md R210): the address computations as arithmetic, and the instructions that use them. -/

namespace Sys2Proof.Machine

/-! ## Input ports (R40, R169, R170) -/

/-- The level of one pin. The model asks for the free bits only where some pin floats, which no bit can tell. -/
theorem portLevels_getLsbD (pull : Nibble) (d : PortDrive) (free : Nibble) {k : Nat} (hk : k < 4) :
    (portLevels pull d free).getLsbD k =
      if d.driven.getLsbD k then d.high.getLsbD k else if pull.getLsbD k then true else free.getLsbD k := by
  have hfloating : (portLevels pull d free) =
      ((d.driven &&& d.high) ||| (~~~d.driven &&& pull)) ||| ((~~~d.driven &&& ~~~pull) &&& free) := by
    simp only [portLevels]
    split
    · next h => simp [h]
    · rfl
  simp only [hfloating, BitVec.getLsbD_or, BitVec.getLsbD_and, BitVec.getLsbD_not, hk]
  cases d.driven.getLsbD k <;> cases pull.getLsbD k <;> simp

theorem sameMemory_portRead (s : State) (v : Nibble) (n len : Nat) :
    SameMemory s (((s.setAcc v).setDraws n).advance len) :=
  sameMemory_of_ram_era_rom rfl rfl rfl

/-- Settles O28: the level of each pin of either port. -/
theorem portReadsGiveThePinLevels : Obligations.PortReadsGiveThePinLevels := fun s =>
  ⟨⟨_, rfl, rfl, sameMemory_portRead s _ _ 1, fun _ hk => portLevels_getLsbD _ _ _ hk⟩,
    ⟨_, rfl, rfl, sameMemory_portRead s _ _ 1, fun _ hk => portLevels_getLsbD _ _ _ hk⟩⟩

/-! ## Physical addresses (R61) -/

theorem bankBit_toNat (v : Nibble) : (v.extractLsb' 3 1).toNat = (v.getLsbD 3).toNat := by
  revert v; decide

theorem State.physical_toNat (s : State) (p : ProgAddr) :
    (s.physical p).toNat = 4096 * (s.pa.getLsbD 3).toNat + p.toNat := by
  rw [State.physical, toNat_append_eq, bankBit_toNat]
  rfl

theorem State.physical_eq (s : State) (p : ProgAddr) :
    s.physical p = BitVec.ofNat 13 (4096 * (s.pa.getLsbD 3).toNat + p.toNat) := by
  rw [← State.physical_toNat, BitVec.ofNat_toNat, BitVec.setWidth_eq]

theorem State.romRead_eq (s : State) (p : ProgAddr) :
    s.romRead p = s.romByte (BitVec.ofNat 13 (4096 * (s.pa.getLsbD 3).toNat + p.toNat)) :=
  congrArg s.romByte (s.physical_eq p)

/-- R171, Operation. -/
theorem exec_outPaA (s : State) : exec .outPaA s = .next ((s.setPa s.acc).advance 1) := rfl

/-- Settles O29: the fetch after it uses the bank bit just written. -/
theorem outPaSwitchesPadsAndBank : Obligations.OutPaSwitchesPadsAndBank := by
  intro s
  refine ⟨_, exec_outPaA s, rfl, sameMemory_of_ram_era_rom rfl rfl rfl, ?_⟩
  have hfirst : (s.pc + 1#12).toNat = (s.pc.toNat + 1) % 4096 := BitVec.toNat_add _ _
  have hsecond : (s.pc + 1#12 + 1#12).toNat = (s.pc.toNat + 2) % 4096 := by
    rw [BitVec.add_assoc]
    exact BitVec.toNat_add _ _
  rw [fetch, State.romRead_eq, State.romRead_eq, ← hfirst, ← hsecond]
  rfl

/-! ## Jumps (R175-R183) -/

/-- The target keeps bit 11 of the next instruction's address. -/
theorem condTarget_eq (s : State) (addr : BitVec 11) : condTarget s addr = halfTarget (s.pc + 2#12) addr := by
  apply BitVec.eq_of_toNat_eq
  have hnxt : (s.pc + 2#12).toNat < 4096 := (s.pc + 2#12).isLt
  have haddr : addr.toNat < 2048 := addr.isLt
  show ((s.pc + 2#12).extractLsb' 11 1 ++ addr).toNat = _
  rw [toNat_append_eq, BitVec.extractLsb'_toNat, halfTarget, BitVec.toNat_ofNat, Nat.shiftRight_eq_div_pow]
  omega

/-- A conditional jump on `taken`, which says that `P`. -/
theorem condJump_next {i : Instr} {s : State} {taken : Bool} {P : Prop} [Decidable P] {addr : BitVec 11}
    (htaken : taken = true ↔ P) (hexec : exec i s = .next (jumpIf taken addr s)) :
    let t : State := { s with pc := if P then halfTarget (s.pc + 2#12) addr else s.pc + 2#12 }
    exec i s = .next t ∧ SameMemory s t := by
  refine ⟨hexec.trans ?_, sameMemory_of_ram_era_rom rfl rfl rfl⟩
  simp only [jumpIf, condTarget_eq, htaken]
  rfl

/-- R179: JTMR clears TF either way. -/
theorem jtmr_next (s : State) (addr : BitVec 11) :
    let t : State := { s with tf := false, pc := if s.tf = true then halfTarget (s.pc + 2#12) addr else s.pc + 2#12 }
    exec (.jtmr addr) s = .next t ∧ SameMemory s t := by
  refine ⟨?_, sameMemory_of_ram_era_rom rfl rfl rfl⟩
  show Host.Outcome.next ((jumpIf s.tf addr s).setTf false) = _
  simp only [jumpIf, condTarget_eq]
  rfl

/-- Settles O31: each condition, and JTMR. -/
theorem conditionalJumpsTestAndStayInTheHalf : Obligations.ConditionalJumpsTestAndStayInTheHalf := fun s addr =>
  ⟨condJump_next Iff.rfl rfl, condJump_next (Bool.not_eq_true' s.c).to_iff rfl,
    condJump_next Iff.rfl rfl, condJump_next Iff.rfl rfl, condJump_next Iff.rfl rfl, condJump_next Iff.rfl rfl,
    condJump_next beq_iff_eq rfl, condJump_next bne_iff_ne rfl, condJump_next bne_iff_ne rfl,
    condJump_next bne_iff_ne rfl, condJump_next bne_iff_ne rfl, jtmr_next s addr⟩

/-! ## Table reads (R210-R214) -/

theorem tableAddr_toNat (page acc low : Nibble) :
    (tableAddr page acc low).toNat = 256 * page.toNat + 16 * acc.toNat + low.toNat := by
  rw [tableAddr, toNat_append_eq, toNat_append_eq]
  omega

theorem currentPage_toNat (s : State) : (currentPage s).toNat = (s.pc + 1#12).toNat / 256 := by
  have hlt : (s.pc + 1#12).toNat < 4096 := (s.pc + 1#12).isLt
  show ((s.pc + 1#12).extractLsb' 8 4).toNat = _
  rw [BitVec.extractLsb'_toNat, Nat.shiftRight_eq_div_pow]
  omega

/-- The byte a table read looks at. -/
theorem romRead_tableAddr (s : State) (page low : Nibble) :
    s.romRead (tableAddr page s.acc low) = tableByte s page.toNat low := by
  rw [State.romRead_eq, tableAddr_toNat, tableByte]
  simp only [Nat.add_assoc]

/-- A table read into R4 at page `page`. -/
theorem tableToR4_result {i : Instr} {s : State} {page : Nibble} {n : Nat} (ha : Usable (dp10 s))
    (hexec : exec i s = tableToR4 s page) (hpage : page.toNat = n) :
    let b := tableByte s n (s.cell (dp10 s))
    let t : State := { s with r.r4 := b.extractLsb' 4 4, acc := b.extractLsb' 0 4, pc := s.pc + 1#12 }
    exec i s = .next t ∧ SameMemory s t := by
  refine ⟨hexec.trans ?_, sameMemory_of_ram_era_rom rfl rfl rfl⟩
  rw [tableToR4, memRead_usable _ _ _ (ramExists_of_usable ha), ← hpage, ← romRead_tableAddr]
  rfl

/-- A table read into the addressed cell at page `page`. -/
theorem tableToCell_result {i : Instr} {s : State} {page : Nibble} {n : Nat} (ha : Usable (dp10 s))
    (hexec : exec i s = tableToCell s page) (hpage : page.toNat = n) :
    let b := tableByte s n s.r.r4
    ∃ t, exec i s = .next t ∧ StoredOnly s t (dp10 s) (b.extractLsb' 4 4) ∧
      t = { s with ram := t.ram, acc := b.extractLsb' 0 4, pc := s.pc + 1#12 } := by
  intro b
  have hbyte : s.romRead (tableAddr page s.acc s.r.r4) = b := by rw [romRead_tableAddr, hpage]
  refine ⟨((s.setCell (dp10 s) (highNibble b)).setAcc (lowNibble b)).advance 1, hexec.trans ?_,
    storedOnly_of_ram_put rfl rfl rfl, rfl⟩
  rw [tableToCell, hbyte, memWrite_usable _ _ _ _ (ramExists_of_usable ha)]

/-- Settles O40: the current page and page F. -/
theorem tableReadsIntoR4 : Obligations.TableReadsIntoR4 := fun s ha =>
  ⟨tableToR4_result ha rfl (currentPage_toNat s), tableToR4_result (page := 0xF#4) ha rfl rfl⟩

/-- Settles O41: the current page and page F. -/
theorem tableReadsIntoMemory : Obligations.TableReadsIntoMemory := fun s ha =>
  ⟨tableToCell_result ha rfl (currentPage_toNat s), tableToCell_result (page := 0xF#4) ha rfl rfl⟩

/-! ## Sound number and HALT (R220, R225) -/

/-- R220, Operation. -/
theorem exec_soundN (n : Nibble) (s : State) :
    exec (.soundN n) s = .next ((s.setSnd { s.snd with on := true, ch := n }).advance 2) := rfl

/-- R225, Operation. -/
theorem exec_halt (s : State) : exec .halt s = .next ((s.setHalted true).advance 2) := rfl

/-- Settles O43: the operations of R220 and R225. -/
theorem soundNumberAndHalt : Obligations.SoundNumberAndHalt := fun s n =>
  ⟨soundWrite_next (exec_soundN n s), exec_halt s, sameMemory_of_ram_era_rom rfl rfl rfl⟩

/-! ## LCD dots (R67, R68) -/

theorem lcdAddr_toNat (g : Fin 40) (c : Fin 8) : (lcdAddr g c).toNat = 0xFF - 2 * g.val - c.val / 4 := by
  rw [lcdAddr, BitVec.toNat_ofNat]
  omega

/-- Settles O56: segment and common are read back from the address and the bit. -/
theorem lcdDotsCoverTheDisplayArea : Obligations.LcdDotsCoverTheDisplayArea := by
  refine ⟨fun g c => ?area, fun g g' c c' haddr hbit => ?apart, fun s g c => rfl⟩
  case area =>
    refine ⟨lcdAddr_toNat g c, ?_, .inr ?_⟩ <;> rw [lcdAddr_toNat] <;> omega
  case apart =>
    have hnat := congrArg BitVec.toNat haddr
    rw [lcdAddr_toNat, lcdAddr_toNat] at hnat
    exact ⟨Fin.ext (by omega), Fin.ext (by omega)⟩

end Sys2Proof.Machine
end

section
/-! PROOFS. How an instruction can end (60_exceptions.md R231), and that a word placed where the next step fetches is the
instruction that runs (60_exceptions.md R260 (4)). -/

namespace Sys2Proof.Machine

/-! ## Completion or the named fault -/

/-- The answer `r` is the fault `f` says, or a next state where it says none. -/
def Answers (f : Option Fault) (r : Result) : Prop :=
  match f with
  | some f => r = .fault f
  | none => ∃ t, r = .next t

/-- The fault of an access at `a`: only where no cell exists (R66). -/
def accessFault (a : DataAddr) : Option Fault := if !ramExists a.toNat then some (.undefinedRam a) else none

section
variable {f : Option Fault} {s : State} {a : DataAddr}

theorem answers_memRead {k : Nibble → Result} (hf : f = accessFault a) (hk : ∀ m, ∃ t, k m = .next t) :
    Answers f (memRead s a k) := by
  rcases memRead_cases s a k with ⟨ha, e⟩ | ⟨ha, e⟩ <;> rw [hf, e, accessFault, ha]
  · exact hk _
  · rfl

theorem answers_memWrite {v : Nibble} {k : State → Result} (hf : f = accessFault a) (hk : ∀ t, ∃ u, k t = .next u) :
    Answers f (memWrite s a v k) := by
  rcases memWrite_cases s a v k with ⟨ha, e⟩ | ⟨ha, e⟩ <;> rw [hf, e, accessFault, ha]
  · exact hk _
  · rfl

theorem answers_updateCell {g : Nibble → Nibble} (hf : f = accessFault a) : Answers f (updateCell s a g) := by
  rw [hf, accessFault, updateCell]
  cases ha : ramExists a.toNat with
  | true => exact ⟨_, (memRead_usable s a _ ha).trans (memWrite_usable s a _ _ ha)⟩
  | false => exact memRead_undefined s a _ ha

end

theorem answers_tableToR4 {f : Option Fault} {s : State} (page : Nibble) (hf : f = accessFault (dp10 s)) :
    Answers f (tableToR4 s page) :=
  answers_memRead hf fun _ => ⟨_, rfl⟩

theorem answers_tableToCell {f : Option Fault} {s : State} (page : Nibble) (hf : f = accessFault (dp10 s)) :
    Answers f (tableToCell s page) := by
  simp only [tableToCell]
  exact answers_memWrite hf fun _ => ⟨_, rfl⟩

theorem answers_call (addr : BitVec 12) (s : State) : Answers (faultOf (.call addr) s) (exec (.call addr) s) := by
  show Answers (if s.subf then some (.nestedCall s.pc) else none) _
  cases hsubf : s.subf with
  | true => exact exec_call_nested addr hsubf
  | false => exact ⟨_, exec_call addr hsubf⟩

theorem answers_ret (s : State) : Answers (faultOf .ret s) (exec .ret s) := by
  show Answers (if s.stk.written then none else some (.stackUnwritten s.pc)) _
  cases hwritten : s.stk.written with
  | true => exact ⟨_, exec_ret hwritten⟩
  | false => exact exec_ret_unwritten hwritten

theorem answers_reti (s : State) : Answers (faultOf .reti s) (exec .reti s) := by
  show Answers (if s.stk.written then none else some (.stackUnwritten s.pc)) _
  cases hwritten : s.stk.written with
  | true => exact ⟨_, exec_reti hwritten⟩
  | false => exact exec_reti_unwritten hwritten

theorem answers_exec (i : Instr) (s : State) : Answers (faultOf i s) (exec i s) := by
  cases i with
  | addAM10 | adcAM10 | subAM10 | sbcAM10 | movAM10 | movAM32 | andAM10 | orAM10 | xorAM10 =>
    simp only [exec]
    exact answers_memRead rfl fun _ => ⟨_, rfl⟩
  | movM10A | movM32A =>
    simp only [exec]
    exact answers_memWrite rfl fun _ => ⟨_, rfl⟩
  | incM10 | decM10 | incM32 | decM32 | andM10A | orM10A | xorM10A =>
    simp only [exec]
    exact answers_updateCell rfl
  | readR4a => exact answers_tableToR4 (currentPage s) rfl
  | readfR4a => exact answers_tableToR4 0xF#4 rfl
  | readMr0a => exact answers_tableToCell (currentPage s) rfl
  | readfMr0a => exact answers_tableToCell 0xF#4 rfl
  | call addr => exact answers_call addr s
  | ret => exact answers_ret s
  | reti => exact answers_reti s
  -- All the others answer a next state whatever the state is, written out by their definitions.
  | _ => exact ⟨_, rfl⟩

/-- Settles O55: every instruction answers as `faultOf` says. -/
theorem everyInstructionCompletesOrFaultsByName : Obligations.EveryInstructionCompletesOrFaultsByName := answers_exec

/-! ## A placed word -/

/-- The ROM list of the placed state. -/
def romWithWord (s : State) (nbits w : Nat) : List Host.Cell :=
  Memory.put (Memory.put s.rom (s.physical s.pc).toNat (tableBytes nbits w).1) (s.physical (s.nxt 1)).toNat
    (tableBytes nbits w).2

/-- `s` with the word's bytes at PC and the address after it, out of HALT and with no reset pulse first. -/
def readyForWord (s : State) (nbits w : Nat) : State :=
  ((s.setRom (romWithWord s nbits w)).setHalted false).setEnv (dropResets s.env)

/-- The placed state is that one, with IE cleared where an interrupt would be taken. -/
theorem withFetchWord_cases (s : State) (nbits w : Nat) :
    ∃ b, s.withFetchWord nbits w = (readyForWord s nbits w).setIe b ∧
      interruptDue ((readyForWord s nbits w).setIe b) = none := by
  have hplace : s.withFetchWord nbits w = match interruptDue (readyForWord s nbits w) with
      | some _ => (readyForWord s nbits w).setIe false
      | none => readyForWord s nbits w := rfl
  cases hdue : interruptDue (readyForWord s nbits w) with
  | some src => exact ⟨false, by rw [hplace, hdue], interruptDue_none (.inl rfl)⟩
  | none => exact ⟨(readyForWord s nbits w).ie, by rw [hplace, hdue]; rfl, hdue⟩

theorem physical_ne_next (s : State) : (s.physical s.pc).toNat ≠ (s.physical (s.nxt 1)).toNat := by
  have hpc : s.pc.toNat < 4096 := s.pc.isLt
  have hnxt : (s.nxt 1).toNat = (s.pc.toNat + 1) % 4096 := BitVec.toNat_add _ _
  rw [State.physical_toNat, State.physical_toNat, hnxt]
  omega

theorem find_romWithWord_first (s : State) (nbits w : Nat) :
    Memory.find (romWithWord s nbits w) (s.physical s.pc).toNat = some (tableBytes nbits w).1 := by
  rw [romWithWord, Memory.find_put_other _ _ _ _ (physical_ne_next s), Memory.find_put_same]

theorem find_romWithWord_second (s : State) (nbits w : Nat) :
    Memory.find (romWithWord s nbits w) (s.physical (s.nxt 1)).toNat = some (tableBytes nbits w).2 :=
  Memory.find_put_same _ _ _

/-- A fetch depends on PC, the bank and ROM only. -/
theorem fetch_eq_of_rom {s t : State} (hpc : t.pc = s.pc) (hpa : t.pa = s.pa) :
    fetch t = ((Memory.find t.rom (s.physical s.pc).toNat).getD (Config.maskRom (s.physical s.pc).toNat),
      (Memory.find t.rom (s.physical (s.nxt 1)).toNat).getD (Config.maskRom (s.physical (s.nxt 1)).toNat)) := by
  simp only [fetch, State.romRead, State.romByte, State.nxt, State.physical, hpc, hpa]

/-- The fetch reads the word's two bytes, whatever IE is. -/
theorem fetch_readyForWord (s : State) (nbits w : Nat) (b : Bool) :
    fetch ((readyForWord s nbits w).setIe b) = tableBytes nbits w := by
  have hrom : ((readyForWord s nbits w).setIe b).rom = romWithWord s nbits w := by simp [readyForWord]
  rw [fetch_eq_of_rom (s := s) (by simp [readyForWord]) (by simp [readyForWord]), hrom, find_romWithWord_first,
    find_romWithWord_second]
  rfl

theorem decode_of_decodeTableWord {nbits w : Nat} {i : Instr} (h : decodeTableWord nbits w = some i) :
    decode (tableBytes nbits w).1 (tableBytes nbits w).2 = .ok i := by
  unfold decodeTableWord at h
  split at h
  · next j hj => cases h; exact hj
  · cases h

/-- Settles O6: nothing is due before the fetch, and the fetch reads the word. -/
theorem placedWordRunsNext : Obligations.PlacedWordRunsNext := by
  intro s nbits w i henv hword
  obtain ⟨b, hplaced, hnone⟩ := withFetchWord_cases s nbits w
  rw [hplaced]
  have hempty : ((readyForWord s nbits w).setIe b).env = [] := by
    show dropResets s.env = []
    rw [henv]; rfl
  have hdecode := decode_of_decodeTableWord hword
  rw [← fetch_readyForWord s nbits w b] at hdecode
  rw [step_of_no_reset (resetDue_nil hempty), takeEvent_nil hempty, atBoundary_of_none_due rfl hnone,
    runInstruction_of_ok hdecode]

end Sys2Proof.Machine
end
